-- ==== Sys2Proof/Word.lean ====
section
/-! DEFINITION. The words of the LP-8's interfaces, its heads and sides, and the two fixed-size tables
(one item per head, one per side) that State is built from. -/

namespace Sys2Proof

/-- A byte of a lane frame or of a host record. -/
abbrev Byte := BitVec 8

/-- A 32-bit word: a register, a lane argument, a page sequence number (00_scope, Conventions). -/
abbrev Word := BitVec 32

/-- A 64-bit byte address in the host's space (00_scope, Conventions). -/
abbrev Addr := BitVec 64

/-- A 48-bit time-base value in ticks of 10 ns (R177). -/
abbrev Tick := BitVec 48

/-- 128 bytes of host memory, byte i in bits 8i+7..8i (R190). -/
abbrev Block := BitVec 1024

/-- A head id 0-7: T0-T3 are 0-3 and B0-B3 are 4-7 (00_scope, Conventions). A lane has its head's id. -/
abbrev HeadId := Fin 8

/-- The two sides of the machine. -/
inductive Side where
  | top
  | bottom
  deriving DecidableEq, Repr

/-- The side on which a head stands (00_scope, Conventions). -/
def HeadId.side (h : HeadId) : Side := if h.val < 4 then .top else .bottom

/-- A head's index within its side, 0 leftmost to 3 rightmost. -/
def HeadId.index (h : HeadId) : Nat := h.val % 4

/-- The head of a side with a given index, taken modulo 4. -/
def Side.head (d : Side) (i : Nat) : HeadId :=
  match d with
  | .top => ⟨i % 4, by omega⟩
  | .bottom => ⟨4 + i % 4, by omega⟩

/-- The four heads of a side, leftmost first. -/
def Side.heads (d : Side) : List HeadId := [d.head 0, d.head 1, d.head 2, d.head 3]

/-- The eight heads in the order of their ids. -/
def allHeads : List HeadId := [0, 1, 2, 3, 4, 5, 6, 7]

/-- The other side. -/
def Side.other : Side → Side
  | .top => .bottom
  | .bottom => .top

/-- One item for each head. -/
structure PerHead (α : Type) where
  t0 : α
  t1 : α
  t2 : α
  t3 : α
  b0 : α
  b1 : α
  b2 : α
  b3 : α
  deriving DecidableEq, Repr

/-- The item of one head. -/
def PerHead.get {α : Type} (v : PerHead α) (h : HeadId) : α :=
  match h with
  | 0 => v.t0
  | 1 => v.t1
  | 2 => v.t2
  | 3 => v.t3
  | 4 => v.b0
  | 5 => v.b1
  | 6 => v.b2
  | 7 => v.b3

/-- The table with one head's item replaced. -/
def PerHead.set {α : Type} (v : PerHead α) (h : HeadId) (a : α) : PerHead α :=
  match h with
  | 0 => { v with t0 := a }
  | 1 => { v with t1 := a }
  | 2 => { v with t2 := a }
  | 3 => { v with t3 := a }
  | 4 => { v with b0 := a }
  | 5 => { v with b1 := a }
  | 6 => { v with b2 := a }
  | 7 => { v with b3 := a }

/-- The table that holds one item for every head. -/
def PerHead.fill {α : Type} (a : α) : PerHead α := ⟨a, a, a, a, a, a, a, a⟩

/-- The table of what a function gives for each head's item. -/
def PerHead.map {α β : Type} (f : α → β) (v : PerHead α) : PerHead β :=
  ⟨f v.t0, f v.t1, f v.t2, f v.t3, f v.b0, f v.b1, f v.b2, f v.b3⟩

/-- The table of what a function gives for each head. -/
def PerHead.tabulate {α : Type} (f : HeadId → α) : PerHead α :=
  ⟨f 0, f 1, f 2, f 3, f 4, f 5, f 6, f 7⟩

/-- One item for each side. -/
structure PerSide (α : Type) where
  top : α
  bottom : α
  deriving DecidableEq, Repr

/-- The item of one side. -/
def PerSide.get {α : Type} (v : PerSide α) (d : Side) : α :=
  match d with
  | .top => v.top
  | .bottom => v.bottom

/-- The table with one side's item replaced. -/
def PerSide.set {α : Type} (v : PerSide α) (d : Side) (a : α) : PerSide α :=
  match d with
  | .top => { v with top := a }
  | .bottom => { v with bottom := a }

/-- One item for each of the four board images. -/
structure PerImage (α : Type) where
  i0 : α
  i1 : α
  i2 : α
  i3 : α
  deriving DecidableEq, Repr

/-- The item of one image, none for a number above 3. -/
def PerImage.get? {α : Type} (v : PerImage α) (g : Nat) : Option α :=
  match g with
  | 0 => some v.i0
  | 1 => some v.i1
  | 2 => some v.i2
  | 3 => some v.i3
  | _ => none

/-- The table with one image's item replaced; a number above 3 changes nothing. -/
def PerImage.set {α : Type} (v : PerImage α) (g : Nat) (a : α) : PerImage α :=
  match g with
  | 0 => { v with i0 := a }
  | 1 => { v with i1 := a }
  | 2 => { v with i2 := a }
  | 3 => { v with i3 := a }
  | _ => v

end Sys2Proof
end

