-- ==== Sys2Proof/Syntax.lean ====
section
/-! DEFINITION. The commands of the LP-8, one constructor per row of spec/opcode_table.json, and their operands. -/

namespace Sys2Proof

/-- What brings a device reset about (R176). -/
inductive ResetCause where
  | resetN
  | pcieFundamental
  | pcieHot
  deriving DecidableEq, Repr

/-- A command: an access of the host, a reply or event of a lane, an event of an input or of a timer, or the
completion of a host read or write. Each is one indivisible event (95_what_each_step_holds). -/
inductive Instr where
  /-- COMMAND write of 1 (R164, R165). -/
  | start
  /-- COMMAND write of 2 (R164, R168). -/
  | stop
  /-- COMMAND write of 3 (R164, R169). -/
  | abort
  /-- COMMAND write of 4 (R164, R174). -/
  | resume
  /-- COMMAND write of 5 (R164, R184). -/
  | clearOverflow
  /-- COMMAND write of 6 (R164, R176). -/
  | reset
  /-- COMMAND write of a value that names no command (R164). -/
  | unknownCommand (value : Word)
  /-- 4-byte write to CBA_LO (R163). -/
  | cbaLoWrite (value : Word)
  /-- 4-byte write to CBA_HI (R163). -/
  | cbaHiWrite (value : Word)
  /-- 4-byte write to EVENTS (R163, R186). -/
  | eventsWrite (value : Word)
  /-- 4-byte write to EVENT_ENABLE (R187, R188). -/
  | eventEnableWrite (value : Word)
  /-- Any other write to the register region: `width` bytes at `offset` (R163, R195). -/
  | registerWriteOther (offset : BitVec 12) (width : Nat) (value : BitVec 64)
  /-- RESET_N goes low, or a PCIe reset (R176). -/
  | deviceReset (cause : ResetCause)
  /-- The function's message-interrupt enable takes a level (R189). -/
  | msiEnableChange (on : Bool)
  /-- The guard filter timer reaches the filter time (R172). -/
  | guardFilterExpiry
  /-- A head's contact filter timer reaches the filter time (R103). -/
  | contactFilterExpiry (head : HeadId)
  /-- A head's landing window reaches its length (R106). -/
  | landingWindowExpiry (head : HeadId)
  /-- The engine's settle timer reaches the settle length (R122). -/
  | settleExpiry
  /-- The ADC takes a sample, a signed count of µV before saturation (R123). -/
  | adcSample (sample : Int)
  /-- The compliance comparator flags (R124). -/
  | complianceFlag
  /-- The charge comparator crosses 1,000 mV; the tick the time base captured (R125). -/
  | chargeCrossing (capture : Tick)
  /-- The charge count reaches 16,777,215 ticks (R125). -/
  | chargeTimeout
  /-- A REACHED reply received whole: tag, reported X and Y (R87, R94). -/
  | reached (lane : HeadId) (tag : Byte) (x y : Word)
  /-- A TOUCHED reply: tag, travel in µm (R87, R95). -/
  | touched (lane : HeadId) (tag : Byte) (travel : Word)
  /-- A BOTTOMED reply (R87, R107). -/
  | bottomed (lane : HeadId) (tag : Byte)
  /-- A RAISED reply (R87, R45). -/
  | raised (lane : HeadId) (tag : Byte)
  /-- A HOMED reply: tag, reported X and Y (R87, R57). -/
  | homed (lane : HeadId) (tag : Byte) (x y : Word)
  /-- A HALTED reply: tag, reported X and Y (R87, R98). -/
  | halted (lane : HeadId) (tag : Byte) (x y : Word)
  /-- A REFUSED reply: tag, the drive's reason code (R87, R96). -/
  | refused (lane : HeadId) (tag : Byte) (code : Word)
  /-- A FAULT reply: tag, the drive's fault code (R87, R97). -/
  | fault (lane : HeadId) (tag : Byte) (code : Word)
  /-- A received frame of 12 bytes, byte i in bits 8i+7..8i, that fails its check or has an unknown code (R85). -/
  | damagedFrame (lane : HeadId) (frame : BitVec 96)
  /-- A gap of more than 4 µs inside a received frame (R85). -/
  | frameGapTimeout (lane : HeadId)
  /-- The receive line has been idle 4 µs after a discarded frame (R85). -/
  | receiverIdleExpiry (lane : HeadId)
  /-- The timer of an outstanding order or HALT reaches its timeout (R93). -/
  | orderTimeout (lane : HeadId)
  /-- The transmit line has been idle 2 µs, so a pending HALT is sent (R84). -/
  | pendingHaltSend (lane : HeadId)
  /-- A lane has sent the untracked RAISE of a soft reset (R101). -/
  | softResetRaiseSent (lane : HeadId)
  /-- A control-block read of LOADING returns: which read, its 128 bytes (R165). -/
  | loadingReadReturn (id : Nat) (data : Block)
  /-- A page header read returns (R146). -/
  | headerReadReturn (id : Nat) (data : Block)
  /-- A step record read returns (R149). -/
  | recordReadReturn (id : Nat) (data : Block)
  /-- A RELOAD's control-block read returns; a 64-byte read fills the low half (R17, R191). -/
  | reloadReadReturn (id : Nat) (data : Block)
  /-- The re-read of the log's read index returns (R183). -/
  | logRereadReturn (id : Nat) (data : Word)
  /-- A host read completes with an error (R144). -/
  | readErrorCompletion (id : Nat)
  /-- A host read has no completion within 50 ms (R144). -/
  | accessErrorTimeout (id : Nat)
  /-- The poll timer reaches the poll interval (R150). -/
  | pollTimerExpiry
  /-- The stall timer of a waiting step reaches its limit; the step's plan position (R66). -/
  | stallTimerExpiry (sequence : Word) (index : Nat)
  /-- BIF issues the next queued status write (R24). -/
  | resultStatusIssued
  /-- BIF issues the next queued MARK value write (R14). -/
  | markValueIssued
  /-- A sampled raw contact level: made or open (R103). -/
  | contactSenseChange (head : HeadId) (made : Bool)
  /-- A sampled level of the GUARD pin: high or low (R172). -/
  | guardInputChange (high : Bool)
  /-- A byte equal to the start byte arrives on a lane (R85). -/
  | laneStartByte (lane : HeadId)
  /-- RESET_N returns high (R176). -/
  | resetNRelease
  deriving DecidableEq, Repr

end Sys2Proof
end

