-- ==== Sys2Proof/Config.lean ====
section
/-! DEFINITION. The fixed quantities of the LP-8 (00_scope, Principal quantities) and the constants its rules name.
The spec leaves no value open that an implementation would fix; the orders it leaves open are read from `freeChoice`, the one
constant without a body (notes/assumptions/8.md). -/

namespace Sys2Proof.Config

/-- DESIGN CHOICE: the free choice behind the n-th order that the spec leaves open, taken modulo the number of things that may
come first. Nothing is known of it (notes/assumptions/8.md). -/
opaque freeChoice : Nat → Nat

/-- Step window capacity (R149). -/
def windowSize : Nat := 16
/-- Page list capacity (R140). -/
def pageListSize : Nat := 8
/-- Records of a plan page (R145). -/
def pageRecords : Nat := 31
/-- Highest band number (R62). -/
def maxBand : Nat := 63
/-- Heads of one side. -/
def headsPerSide : Nat := 4
/-- Saturation value of a touch count (R50). -/
def maxTouches : Nat := 16777215
/-- Largest lead value in µΩ (R53). -/
def maxLead : Nat := 5000000
/-- A host read with no completion ends in an access error after this many ms (R144). -/
def readTimeoutMs : Nat := 50
/-- Pending fault list capacity (R180). -/
def pendingFaults : Nat := 8
/-- Start byte of a lane frame (R194). -/
def startByte : BitVec 8 := 0x7E#8
/-- Ticks of one frame on the line: 12 bytes of 1 µs (R84). -/
def frameTicks : Nat := 1200
/-- Ticks of idle line after a frame: 2 µs (R84). -/
def gapTicks : Nat := 200
/-- Ticks of the 1 µs strobe (R177). -/
def ticksPerUs : Nat := 100
/-- Ticks of the 1 ms strobe (R177). -/
def ticksPerMs : Nat := 100000
/-- Control block signature (R141). -/
def blockSignature : Nat := 0x4C504342
/-- Control block layout version (R141). -/
def layoutVersion : Nat := 1
/-- Control block length in bytes (R191). -/
def blockBytes : Nat := 2048
/-- Page header signature (R145). -/
def pageSignature : Nat := 0x4C505047
/-- Page length in bytes (R192). -/
def pageBytes : Nat := 4096
/-- ADC saturation magnitude in µV (R123). -/
def adcLimit : Int := 2000000
/-- The reading below which the next range down is tried (R129). -/
def lowReading : Nat := 100000
/-- Longest CAP charge in ticks (R125). -/
def maxCharge : Nat := 16777215
/-- A charge of fewer ticks is short (R125). -/
def shortCharge : Nat := 1000
/-- Re-ranges of one measurement (R129). -/
def maxReranges : Nat := 3
/-- Highest CAL resistance that sets the leads, in µΩ (R136). -/
def calLimit : Nat := 10000000
/-- Part code and revision, as the ID register reads (R163, R195). -/
def idRegister : BitVec 32 := 0x00014C38#32

/-- Filter time in µs of a contact or guard filter code (R102); 0 is no filter. -/
def filterTime (code : Nat) : Nat := if code = 0 then 0 else 64 * 2 ^ (code - 1)

/-- Landing window length in µs of a contact filter code (R102). -/
def landingWindow (code : Nat) : Nat := 4 * filterTime code + 1000

/-- Compliance level in mV of a code 1-15 (R120). -/
def complianceLevel (code : Nat) : Nat :=
  if code = 15 then 10000 else 2000 + 500 * code

end Sys2Proof.Config
end

