-- ==== Sys2Proof/Machine/State.lean ====
section
/-! DEFINITION. Everything the spec gives the LP-8 to hold, as plain data, and its value right after reset. Each item's
rule stands at its field; INVENTORY.md lists them all with their reset values. -/

namespace Sys2Proof.Machine

/-- Why the machine stops with a fault. No command of this part stops it: every fault of the spec is an effect on the
state (R178), and every event for which nothing is running leaves the state alone (notes/assumptions/4.md). -/
inductive Fault where
  /-- Raised by no meaning. It stands so that the type is inhabited; a run never ends in it, which is safe. -/
  | neverRaised
  deriving DecidableEq, Repr

/-- Why a command is refused a meaning. -/
inductive Refusal where
  /-- Raised by an arm of `exec` for a command without a meaning yet; safe. No arm raises it now. -/
  | notModelled (mnemonic : String)
  deriving DecidableEq, Repr

/-- A step's position in the plan: page sequence number and record index 0-30 (R1). -/
structure Pos where
  seq : Word
  idx : Nat
  deriving DecidableEq, Repr

/-- A contiguous range of bands 0-63, both ends included (R63). -/
structure Range where
  lo : Nat
  hi : Nat
  deriving DecidableEq, Repr

/-! ### Steps (R1, R6, R7, R22) -/

/-- The verdicts the part produces (R22). -/
inductive Verdict where
  | pass
  | passMarginal
  | failLow
  | failHigh
  | outOfReach
  | keepOut
  | noContact
  | contactLost
  | headWorn
  | headUnavailable
  | blocked
  | driveFailure
  | badStep
  | done
  | pointsTooClose
  deriving DecidableEq, Repr

/-- What SEQ holds of a step's state. The states TRAVELLING, TOUCHING, RETOUCHING, LANDED and MEASURING of R6 are
derived from `granted`, the points and the engine (`stepState`); ACTIVE is a control step's (R8). -/
inductive StepPhase where
  | pending
  | waiting
  | yielding
  | granted
  | lifting
  | active
  | done
  deriving DecidableEq, Repr

/-- A point's phase (R7). -/
inductive PointPhase where
  | idle
  | moving
  | descending
  | settling
  | landed
  | retouching
  | failed
  deriving DecidableEq, Repr

/-- Why a point's retouch was begun (R110, R113). -/
inductive RetouchCause where
  | noContact
  | lostContact
  deriving DecidableEq, Repr

/-- The two points of a step. -/
inductive PointName where
  | a
  | b
  deriving DecidableEq, Repr

/-- A point record of a step entry (R1, R39, R110, R114). -/
structure Point where
  /-- assigned head -/
  head : Option HeadId
  phase : PointPhase
  /-- retouches used, 0-3 -/
  used : Nat
  /-- machine target stored at dispatch -/
  target : Option (Int × Int)
  cause : Option RetouchCause
  /-- target of the retouch attempt last moved to -/
  retouchTarget : Option (Int × Int)
  deriving DecidableEq, Repr

/-- The result flags of a step (R1). -/
structure ResultFlags where
  highClamp : Bool
  lowClamp : Bool
  complianceSeen : Bool
  reranged : Bool
  retouched : Bool
  partialPark : Bool
  deriving DecidableEq, Repr

/-- A stall timer: count of ms, the limit it was started with, and whether a grant with yields has paused it (R66). -/
structure StallTimer where
  count : Nat
  limit : Nat
  paused : Bool
  deriving DecidableEq, Repr

/-- A yield's state (R76). -/
inductive YieldState where
  | held
  | out
  | reached
  deriving DecidableEq, Repr

/-- One yield of a group (R76). -/
structure Yield where
  head : HeadId
  /-- direction of the cascade: rightward or leftward -/
  rightward : Bool
  /-- yield band c -/
  band : Nat
  target : Int × Int
  sweep : Range
  state : YieldState
  deriving DecidableEq, Repr

/-- The main part of a grant for one point (R76). -/
structure MainPart where
  point : PointName
  head : HeadId
  target : Int × Int
  sweep : Range
  deriving DecidableEq, Repr

/-- A yield group (R76). Its promised set is derived. -/
structure YieldGroup where
  mains : List MainPart
  yields : List Yield
  deriving DecidableEq, Repr

/-- A step-window entry (R1), with what CLA holds for the step: its stall timer (R66) and its yield group (R76). -/
structure Entry where
  pos : Pos
  /-- host address of the step record -/
  addr : Addr
  /-- the 96-byte request with the adjustments of R2 -/
  request : BitVec 768
  phase : StepPhase
  a : Point
  b : Point
  verdict : Option Verdict
  flags : ResultFlags
  /-- measured value in the kind's unit -/
  value : Nat
  finalRange : Nat
  attempts : Nat
  landingTime : Tick
  endTime : Tick
  written : Bool
  stall : Option StallTimer
  group : Option YieldGroup
  /-- identity of the value write an ACTIVE MARK waits for (R14, R15) -/
  markWrite : Option Nat
  deriving DecidableEq, Repr

/-! ### Heads (R41) and lanes (R88) -/

/-- A head's state (R42). -/
inductive HeadState where
  | offline
  | homing
  | idle
  | moving
  | descending
  | settling
  | landed
  | raising
  | halting
  | lost
  deriving DecidableEq, Repr

/-- What a head does for its assigned step (R41). -/
inductive Purpose where
  | point (p : PointName)
  | yielding
  | park
  | home
  deriving DecidableEq, Repr

/-- An order other than HALT, as HDT requests or holds it (R41, R86). -/
inductive Order where
  | goto (x y : Int)
  | descend
  | raise
  | home
  deriving DecidableEq, Repr

/-- The five order kinds (R86). -/
inductive OrderKind where
  | goto
  | descend
  | raise
  | halt
  | home
  deriving DecidableEq, Repr

/-- A head record (R41). `held` is the head's part of the band table as well (R62): the two are one storage. -/
structure Head where
  state : HeadState
  enabled : Bool
  worn : Bool
  assigned : Option Pos
  serving : Option Purpose
  x : Int
  y : Int
  held : Option Range
  heldOrder : Option Order
  touches : Nat
  wearLimit : Nat
  lead : Nat
  homeX : Int
  homeY : Int
  deriving DecidableEq, Repr

/-- An outstanding order other than HALT (R88, R89). -/
structure SentOrder where
  kind : OrderKind
  tag : Byte
  arg1 : Word
  arg2 : Word
  /-- ms counted since issue -/
  count : Nat
  timeout : Nat
  /-- a GOTO whose head contact in travel has made LOST (R98, R108) -/
  contact : Bool := false
  deriving DecidableEq, Repr

/-- An outstanding HALT (R88, R90). -/
structure SentHalt where
  tag : Byte
  count : Nat
  timeout : Nat
  /-- the order it replaced: GOTO or HOME -/
  replaced : OrderKind
  /-- acceptance range over a GOTO; over a HOME any position is accepted -/
  accept : Option Range
  /-- sent over the GOTO of a head that contact in travel has made LOST: its HALTED makes no record (R98) -/
  contact : Bool := false
  deriving DecidableEq, Repr

/-- The lane states FREE, ORDER and HALT with what is outstanding in each (R88). -/
inductive LaneOut where
  | free
  | order (o : SentOrder)
  | halt (h : SentHalt)
  deriving DecidableEq, Repr

/-- A lane's receiver (R85, R88). -/
inductive Receiver where
  | hunting
  | inside (bytes : List Byte)
  | waitIdle
  deriving DecidableEq, Repr

/-- A lane's state (R84, R88, R101). -/
structure Lane where
  out : LaneOut
  nextTag : Byte
  pendingHalt : Bool
  /-- the silent tags: bit t is set when tag t is silent -/
  silent : BitVec 256
  receiver : Receiver
  /-- the transmit line: ticks since the frame last sent began, none once the line has been idle 2 µs after it (R84) -/
  txTimer : Option Nat
  /-- ticks until the untracked RAISE of a soft reset has been sent (R101) -/
  resetRaise : Option Nat
  deriving DecidableEq, Repr

/-- The quantities common to all lanes (R88). Timeouts in ms, lengths in µm. -/
structure LaneConfig where
  gotoTimeout : Nat
  descendTimeout : Nat
  raiseTimeout : Nat
  homeTimeout : Nat
  tolerance : Nat
  descentLimit : PerSide Nat
  deriving DecidableEq, Repr

/-! ### Contact Monitor (R102) and Measurement Engine (R116) -/

/-- CTM's state for one head (R102). Levels: true is made. -/
structure Contact where
  raw : Bool
  filtered : Bool
  /-- count of µs the raw level has differed -/
  timer : Option Nat
  /-- landing window: count of µs and length -/
  window : Option (Nat × Nat)
  deriving DecidableEq, Repr

/-- CTM's state. -/
structure ContactMonitor where
  code : Nat
  heads : PerHead Contact
  deriving DecidableEq, Repr

/-- The engine's phase (R116). -/
inductive EnginePhase where
  | free
  | settle
  | integrate
  | charge
  deriving DecidableEq, Repr

/-- The outcome of an attempt (R116). -/
inductive AttemptOutcome where
  | overRange
  | compliant
  | inRange
  | crossed
  | short
  | noCrossing
  deriving DecidableEq, Repr

/-- An entry of the attempt record: range, outcome, N in µV or ticks, and whether the compliance mark was set
(R116, R123). -/
structure Attempt where
  k : Nat
  outcome : AttemptOutcome
  reading : Int
  complianceMark : Bool
  deriving DecidableEq, Repr

/-- How the matrix joins the heads to the analog parts (R119). -/
inductive MatrixKind where
  | twoWire
  | fourWire
  | diode
  | capacitance
  deriving DecidableEq, Repr

/-- A connection of the matrix: its kind and the heads of A and B; B is none for CAP (R119). -/
structure Connection where
  kind : MatrixKind
  a : HeadId
  b : Option HeadId
  deriving DecidableEq, Repr

/-- The Measurement Engine's state (R116). -/
structure Engine where
  served : Option Pos
  phase : EnginePhase
  k : Nat
  /-- compliance level in mV -/
  compliance : Nat
  attempts : List Attempt
  /-- settle timer: count of µs and length -/
  settle : Option (Nat × Nat)
  /-- count of µs since INTEGRATE began (R123) -/
  sampleTimer : Nat
  samples : Nat
  sum : Int
  overMark : Bool
  complianceMark : Bool
  chargeStart : Tick
  /-- the comparator capture (R125) -/
  capture : Tick
  secondarySettle : Nat
  defaultCompliance : Nat
  matrix : Option Connection
  /-- off, or on at I_k -/
  source : Option Nat
  deriving DecidableEq, Repr

/-! ### Frame Unit (R25) -/

/-- An image transform entry (R25). -/
structure Transform where
  valid : Bool
  mirror : Bool
  kppm : Int
  ox : Int
  oy : Int
  c : Int
  s : Int
  deriving DecidableEq, Repr

/-- A keep-out rectangle (R25). -/
structure Rect where
  xmin : Int
  ymin : Int
  xmax : Int
  ymax : Int
  deriving DecidableEq, Repr

/-- A side's work area (R25). -/
structure WorkArea where
  xmax : Nat
  ymax : Nat
  deriving DecidableEq, Repr

/-- The Frame Unit's contents (R25). -/
structure FrameUnit where
  transforms : PerImage (PerSide Transform)
  keepOut : PerSide (List Rect)
  area : PerSide WorkArea
  /-- band width w in µm -/
  width : Nat
  /-- margin m in bands -/
  margin : Nat
  deriving DecidableEq, Repr

/-! ### Plan Reader (R140) and Bus Interface -/

/-- A page record (R140). -/
structure Page where
  addr : Addr
  seq : Word
  heldCount : Nat
  complete : Bool
  next : Addr
  taken : Nat
  retired : Nat
  deriving DecidableEq, Repr

/-- The fetch states PAUSED, HEADER, TAKE, POLL, CHAIN and END (R148). -/
inductive FetchState where
  | paused
  | header
  | take
  | poll
  | chain
  | planEnd
  deriving DecidableEq, Repr

/-- The Plan Reader's state but for the step window and the reads in flight (R140). -/
structure PlanReader where
  cursorAddr : Addr
  cursorIdx : Nat
  pages : List Page
  /-- the chain point: next address and expected sequence -/
  chain : Option (Addr × Word)
  fetch : FetchState
  /-- poll timer: count of ms and the interval it was started with -/
  pollTimer : Option (Nat × Nat)
  pollInterval : Nat
  starvedArm : Bool
  /-- also HDT's counts-loaded flag (R55) -/
  planLoaded : Bool
  generation : Nat
  deriving DecidableEq, Repr

/-- What a host read is for (R190). -/
inductive ReadPurpose where
  /-- read i of LOADING's sixteen -/
  | loading (i : Nat)
  /-- a page header; whether the poll timer called for it -/
  | header (poll : Bool)
  | record (pos : Pos)
  /-- a control-block range of RELOAD, by its offset -/
  | reload (offset : Nat)
  | logIndex
  deriving DecidableEq, Repr

/-- A host read in flight (R140, R144). -/
structure HostRead where
  id : Nat
  purpose : ReadPurpose
  addr : Addr
  generation : Nat
  /-- ms since issue -/
  ms : Nat
  /-- a record read's data while it waits for an older record's (R149) -/
  data : Option Block
  deriving DecidableEq, Repr

/-- What a host write carries (R190), the interrupt message among them (R189). -/
inductive WriteTag where
  | resultItems (pos : Pos)
  | resultStatus (pos : Pos)
  | markValue (pos : Pos)
  | retiredWord
  | cursor
  | counts (head : HeadId)
  | faultRecord
  | logIndex
  | message
  deriving DecidableEq, Repr

/-- A host write requested and not yet issued: its bytes in memory order from bit 0 of `data` (R157, R190). -/
structure HostWrite where
  id : Nat
  tag : WriteTag
  addr : Addr
  len : Nat
  data : BitVec 256
  deriving DecidableEq, Repr

/-- The Bus Interface's state (R143, R144, R157, R189). -/
structure BusInterface where
  /-- control block address in force -/
  cba : Addr
  /-- memory window in force: base and limit -/
  window : Option (Addr × Addr)
  reads : List HostRead
  writes : List HostWrite
  nextRead : Nat
  nextWrite : Nat
  msiEnable : Bool
  deriving DecidableEq, Repr

/-- An active RELOAD (R16, R17): its section mask, the identities of the reads still out, the data returned by offset. -/
structure Reload where
  pos : Pos
  mask : Nat
  out : List Nat
  got : List (Nat × Block)
  deriving DecidableEq, Repr

/-- An active PARK (R60): heads settled, whether one was skipped, heads left in the pass, whether the pass has issued a
move, and the head whose move is out. -/
structure Park where
  pos : Pos
  side : Side
  settled : List HeadId
  skipped : Bool
  rest : List HeadId
  moved : Bool
  current : Option HeadId
  deriving DecidableEq, Repr

/-! ### Run Control (R161) and Event Unit (R180) -/

/-- The run states (R161). -/
inductive RunState where
  | idle
  | loading
  | running
  | draining
  | stopped
  | guarded
  | faulted
  deriving DecidableEq, Repr

/-- Where RESUME takes a GUARDED part (R161). -/
inductive ResumeTarget where
  | running
  | draining
  | stopped
  | stoppedNoWriteBack
  deriving DecidableEq, Repr

/-- A LOADING in progress (R165, R167). With no read remaining it waits for the lanes' soft reset. -/
structure Load where
  cba : Addr
  /-- the 2,048 bytes read so far -/
  block : BitVec 16384
  /-- reads not yet returned -/
  remaining : Nat
  /-- writes requested before the START and not yet issued -/
  writesAhead : Nat
  deriving DecidableEq, Repr

/-- Run Control's state (R161). -/
structure RunControl where
  state : RunState
  resume : Option ResumeTarget
  planEndHeld : Bool
  polarity : Bool
  guardCode : Nat
  /-- the GUARD pin as last sampled: high or low -/
  guardPin : Bool
  /-- filtered level: true is open -/
  guardOpen : Bool
  guardTimer : Option Nat
  load : Option Load
  /-- RESET_N held low (R176) -/
  resetHeld : Bool
  deriving DecidableEq, Repr

/-- The twelve fault kinds (R178). -/
inductive FaultKind where
  | configInvalid
  | memoryWindow
  | badPage
  | driveTimeout
  | driveFault
  | lateReply
  | linkFrame
  | positionError
  | contactInTravel
  | headWorn
  | stepStalled
  | guardTrip
  deriving DecidableEq, Repr

/-- A fault submission with the time and run state EVU adds (R179). -/
structure FaultRecord where
  kind : FaultKind
  head : Option HeadId
  side : Option Side
  seq : Word
  idx : Option Nat
  cause : Nat
  detail : Word
  time : Tick
  run : RunState
  deriving DecidableEq, Repr

/-- The Event Unit's state (R180, R186, R187). -/
structure EventUnit where
  inForce : Bool
  base : Addr
  sizeCode : Nat
  writeIdx : Word
  readIdx : Word
  overflow : Bool
  /-- identity of the re-read in flight -/
  reread : Option Nat
  pendingFaults : List FaultRecord
  events : BitVec 8
  enables : BitVec 8
  deriving DecidableEq, Repr

/-- The Time Base's state (R177). -/
structure TimeBase where
  ticks : Tick
  prescaler : Nat
  deriving DecidableEq, Repr

/-- The two stored registers (R163). -/
structure Registers where
  cbaLo : Word
  cbaHi : Word
  deriving DecidableEq, Repr

/-- What the event in progress still has to do, and the run state at its start (R179). The model's own; all clear
between commands. -/
structure Due where
  evalTop : Bool
  evalBottom : Bool
  faulted : Bool
  planEnd : Bool
  runBefore : RunState
  deriving DecidableEq, Repr

/-- Nothing due. -/
def Due.none : Due := ⟨false, false, false, false, .idle⟩

/-- The LP-8's state. -/
structure State where
  tmb : TimeBase
  run : RunControl
  regs : Registers
  bus : BusInterface
  evu : EventUnit
  fru : FrameUnit
  heads : PerHead Head
  /-- true is OPEN (R48) -/
  sides : PerSide Bool
  lanes : PerHead Lane
  alc : LaneConfig
  ctm : ContactMonitor
  men : Engine
  plr : PlanReader
  window : List Entry
  /-- stall limit in force (R66) -/
  stallLimit : Nat
  park : Option Park
  reload : Option Reload
  due : Due
  /-- how many free choices have been drawn for orders the spec leaves open; the model's own (notes/assumptions/8.md) -/
  choices : Nat
  pending : List Instr
  deriving DecidableEq, Repr

/-! ### Values after reset -/

/-- R41. -/
def Head.atReset : Head :=
  { state := .offline, enabled := false, worn := false, assigned := none, serving := none, x := 0, y := 0,
    held := none, heldOrder := none, touches := 0, wearLimit := 0, lead := 0, homeX := 0, homeY := 0 }

/-- R88. -/
def Lane.atReset : Lane :=
  { out := .free, nextTag := 0, pendingHalt := false, silent := BitVec.allOnes 256, receiver := .hunting,
    txTimer := none, resetRaise := none }

/-- R88. -/
def LaneConfig.atReset : LaneConfig :=
  { gotoTimeout := 65535, descendTimeout := 65535, raiseTimeout := 65535, homeTimeout := 65535, tolerance := 0,
    descentLimit := ⟨0, 0⟩ }

/-- R102, with the input's level. -/
def Contact.atReset (raw : Bool) : Contact :=
  { raw := raw, filtered := false, timer := if raw then some 0 else none, window := none }

/-- R116. The sample timer and the capture start at 0 (notes/assumptions/1.md). -/
def Engine.atReset : Engine :=
  { served := none, phase := .free, k := 0, compliance := 2500, attempts := [], settle := none, sampleTimer := 0,
    samples := 0, sum := 0, overMark := false, complianceMark := false, chargeStart := 0, capture := 0,
    secondarySettle := 0, defaultCompliance := 1, matrix := none, source := none }

/-- R25. -/
def Transform.atReset : Transform :=
  { valid := false, mirror := false, kppm := 0, ox := 0, oy := 0, c := 0, s := 0 }

/-- R25: bounds reversed, so disabled. -/
def Rect.atReset : Rect := { xmin := 0, ymin := 0, xmax := -1, ymax := -1 }

/-- R25. -/
def FrameUnit.atReset : FrameUnit :=
  let t : PerSide Transform := ⟨.atReset, .atReset⟩
  let r := List.replicate 16 Rect.atReset
  { transforms := ⟨t, t, t, t⟩, keepOut := ⟨r, r⟩, area := ⟨⟨0, 0⟩, ⟨0, 0⟩⟩, width := 5000, margin := 0 }

/-- R140. -/
def PlanReader.atReset : PlanReader :=
  { cursorAddr := 0, cursorIdx := 0, pages := [], chain := none, fetch := .paused, pollTimer := none,
    pollInterval := 1000, starvedArm := true, planLoaded := false, generation := 0 }

/-- R143, R157. The identities of reads and writes go on from before the reset (notes/assumptions/5.md), and the message
enable is an input (R189). -/
def BusInterface.atReset (nextRead nextWrite : Nat) (msiEnable : Bool) : BusInterface :=
  { cba := 0, window := none, reads := [], writes := [], nextRead := nextRead, nextWrite := nextWrite,
    msiEnable := msiEnable }

/-- R161, with the GUARD pin's level and whether RESET_N is held. With polarity 0 the guard is open when the pin is
low. -/
def RunControl.atReset (guardPin resetHeld : Bool) : RunControl :=
  { state := .idle, resume := none, planEndHeld := false, polarity := false, guardCode := 7, guardPin := guardPin,
    guardOpen := false, guardTimer := if guardPin then none else some 0, load := none, resetHeld := resetHeld }

/-- R180, R163. -/
def EventUnit.atReset : EventUnit :=
  { inForce := false, base := 0, sizeCode := 4, writeIdx := 0, readIdx := 0, overflow := false, reread := none,
    pendingFaults := [], events := 0, enables := 0 }

/-- The reset values of every item, from the levels of the inputs and the model's own fields that a reset leaves:
the identities of reads and writes, the count of free choices and the waiting commands (R176). -/
def State.resetFrom (contacts : PerHead Bool) (guardPin resetHeld msiEnable : Bool) (nextRead nextWrite : Nat)
    (choices : Nat) (pending : List Instr) : State :=
  { tmb := ⟨0, 0⟩
    run := .atReset guardPin resetHeld
    regs := ⟨0, 0⟩
    bus := .atReset nextRead nextWrite msiEnable
    evu := .atReset
    fru := .atReset
    heads := .fill .atReset
    sides := ⟨false, false⟩
    lanes := .fill .atReset
    alc := .atReset
    ctm := ⟨7, contacts.map Contact.atReset⟩
    men := .atReset
    plr := .atReset
    window := []
    stallLimit := 0
    park := none
    reload := none
    due := .none
    choices := choices
    pending := pending }

/-- The machine right after reset (R176), with every contact input open, the GUARD pin low, RESET_N high and the
message enable clear (notes/assumptions/1.md). -/
def State.reset : State := State.resetFrom (.fill false) false false false 0 0 0 []

end Sys2Proof.Machine
end

