-- ==== Sys2Proof/Machine/Operands.lean ====
section
/-! DEFINITION. The fields of the host-memory records and of the lane frames (11_record_and_frame_layouts): where each
lies, how wide it is and how its values are coded. -/

namespace Sys2Proof.Machine

/-! ### Little-endian fields (R190) -/

/-- The unsigned field of `width` bytes at byte offset `off` (R190). -/
def fieldNat {n : Nat} (d : BitVec n) (off width : Nat) : Nat := (d.extractLsb' (8 * off) (8 * width)).toNat

/-- The two's complement field of `width` bytes at byte offset `off` (R190). -/
def fieldInt {n : Nat} (d : BitVec n) (off width : Nat) : Int := (d.extractLsb' (8 * off) (8 * width)).toInt

/-- A flag field of one byte: set when nonzero (R190). -/
def fieldFlag {n : Nat} (d : BitVec n) (off : Nat) : Bool := fieldNat d off 1 != 0

/-- The record with the low `8 * width` bits of `v` stored at byte offset `off` (R190). -/
def putField {n : Nat} (d : BitVec n) (off width v : Nat) : BitVec n :=
  let mask := BitVec.ofNat n (2 ^ (8 * width) - 1) <<< (8 * off)
  (d &&& ~~~mask) ||| (BitVec.ofNat n (v % 2 ^ (8 * width)) <<< (8 * off))

/-- A 32-bit word that holds an integer, taken modulo 2^32. -/
def wordOfInt (i : Int) : Word := BitVec.ofInt 32 i

/-! ### The step record (R192) -/

/-- The twelve step kinds (R3, R5). -/
inductive StepKind where
  | res2
  | res4
  | cont
  | iso
  | diode
  | cap
  | cal
  | frame
  | head
  | park
  | reload
  | mark
  deriving DecidableEq, Repr

/-- The kind a code names, none for an unknown kind (R192). -/
def StepKind.ofCode (c : Nat) : Option StepKind :=
  match c with
  | 0x01 => some .res2
  | 0x02 => some .res4
  | 0x03 => some .cont
  | 0x04 => some .iso
  | 0x05 => some .diode
  | 0x06 => some .cap
  | 0x07 => some .cal
  | 0x10 => some .frame
  | 0x11 => some .head
  | 0x12 => some .park
  | 0x13 => some .reload
  | 0x14 => some .mark
  | _ => none

/-- The seven measurement kinds (R3). -/
def StepKind.isMeasurement : StepKind → Bool
  | .res2 | .res4 | .cont | .iso | .diode | .cap | .cal => true
  | .frame | .head | .park | .reload | .mark => false

/-- The four barrier kinds (R12). -/
def StepKind.isBarrier : StepKind → Bool
  | .frame | .head | .park | .reload => true
  | _ => false

/-- Kinds with a second point (R3). -/
def StepKind.usesB (k : StepKind) : Bool := k.isMeasurement && k != .cap

def reqKind (r : BitVec 768) : Option StepKind := StepKind.ofCode (fieldNat r 0x00 1)
def reqMachineCoords (r : BitVec 768) : Bool := fieldNat r 0x01 1 % 2 == 1
def reqImage (r : BitVec 768) : Nat := fieldNat r 0x02 1
def reqCompliance (r : BitVec 768) : Nat := fieldNat r 0x03 1
def reqRetries (r : BitVec 768) : Nat := fieldNat r 0x06 1
def reqRange (r : BitVec 768) : Nat := fieldNat r 0x07 1
def reqSamples (r : BitVec 768) : Nat := fieldNat r 0x08 2
def reqSettle (r : BitVec 768) : Nat := fieldNat r 0x0A 2
def reqDelta (r : BitVec 768) : Nat := fieldNat r 0x0C 2
def reqGuardBand (r : BitVec 768) : Nat := fieldNat r 0x0E 2
def reqExpected (r : BitVec 768) : Nat := fieldNat r 0x20 8
def reqLow (r : BitVec 768) : Nat := fieldNat r 0x28 8
def reqHigh (r : BitVec 768) : Nat := fieldNat r 0x30 8

/-- A point's selector byte (R192). -/
def reqSelector (r : BitVec 768) (p : PointName) : Nat :=
  match p with
  | .a => fieldNat r 0x04 1
  | .b => fieldNat r 0x05 1

/-- A point's coordinates in the request (R192). -/
def reqPoint (r : BitVec 768) (p : PointName) : Int × Int :=
  match p with
  | .a => (fieldInt r 0x10 4, fieldInt r 0x14 4)
  | .b => (fieldInt r 0x18 4, fieldInt r 0x1C 4)

/-- A side field: 0 top, 1 bottom, anything else neither (R192). -/
def sideOfCode (c : Nat) : Option Side :=
  match c with
  | 0 => some .top
  | 1 => some .bottom
  | _ => none

/-- The side part of a selector, bits 5:4 (R192). -/
def selectorSide (sel : Nat) : Option Side := sideOfCode (sel / 16 % 4)

/-- What a selector's head field names: a head, ANY, or no head of either side (R4, R192). -/
inductive HeadChoice where
  | named (h : HeadId)
  | any
  | invalid
  deriving DecidableEq, Repr

/-- The head field of a selector, bits 3:0 (R192). -/
def selectorHead (sel : Nat) : HeadChoice :=
  if h : sel % 16 < 8 then .named ⟨sel % 16, h⟩ else if sel % 16 = 15 then .any else .invalid

/-- The points a request's kind uses (R3, R4). -/
def reqPoints (r : BitVec 768) : List PointName :=
  match reqKind r with
  | some k => if k.isMeasurement then (if k.usesB then [.a, .b] else [.a]) else []
  | none => []

/-- The request adjusted at fetch (R2). -/
def adjustRequest (r : BitVec 768) : BitVec 768 :=
  match reqKind r with
  | none => r
  | some k =>
    if !k.isMeasurement then r
    else
      let r := putField r 0x06 1 (min (reqRetries r) 3)
      let r := putField r 0x0C 2 (min (max (reqDelta r) 10) 500)
      let r := putField r 0x03 1 (min (reqCompliance r) 15)
      let r := if k = .cap then r else putField r 0x08 2 (min (max (reqSamples r) 1) 1024)
      let r := if k = .cal then r else putField r 0x0E 2 (min (reqGuardBand r) 500)
      if k = .diode then putField r 0x07 1 (min (reqRange r) 7) else r

/-- The status field of a step record as read (R2, R192). -/
def recordStatus (d : Block) : Nat := fieldNat d 0x60 2

/-- The 96-byte request of a step record (R192). -/
def recordRequest (d : Block) : BitVec 768 := d.extractLsb' 0 768

/-! #### Control-step fields (R192) -/

def frameImage (r : BitVec 768) : Nat := fieldNat r 0x02 1
def frameSide (r : BitVec 768) : Option Side := sideOfCode (fieldNat r 0x04 1)

/-- The transform a FRAME step carries, its valid flag set (R28, R192). -/
def frameTransform (r : BitVec 768) : Transform :=
  { valid := true, mirror := fieldFlag r 0x05, kppm := fieldInt r 0x18 4, ox := fieldInt r 0x08 4,
    oy := fieldInt r 0x0C 4, c := fieldInt r 0x10 4, s := fieldInt r 0x14 4 }

/-- The actions of a HEAD step (R5). -/
inductive HeadAction where
  | homeSide (d : Side)
  | enable (h : HeadId)
  | disable (h : HeadId)
  | resetWear (h : HeadId)
  deriving DecidableEq, Repr

/-- The action of a HEAD step, none where R13 gives BAD_STEP (R192). -/
def headAction (r : BitVec 768) : Option HeadAction :=
  let arg := fieldNat r 0x05 1
  match fieldNat r 0x04 1 with
  | 1 => (sideOfCode arg).map .homeSide
  | 2 => if h : arg < 8 then some (.enable ⟨arg, h⟩) else none
  | 3 => if h : arg < 8 then some (.disable ⟨arg, h⟩) else none
  | 4 => if h : arg < 8 then some (.resetWear ⟨arg, h⟩) else none
  | _ => none

def parkSide (r : BitVec 768) : Option Side := sideOfCode (fieldNat r 0x04 1)
def reloadMask (r : BitVec 768) : Nat := fieldNat r 0x04 1 % 16
def markInterrupt (r : BitVec 768) : Bool := fieldFlag r 0x04
def markTarget (r : BitVec 768) : Addr := r.extractLsb' 64 64
def markValue (r : BitVec 768) : Word := r.extractLsb' 128 32

/-! ### Codes (R22, R193, R194) -/

/-- A verdict's status code (R22). -/
def Verdict.code : Verdict → Nat
  | .pass => 1
  | .passMarginal => 2
  | .failLow => 3
  | .failHigh => 4
  | .outOfReach => 5
  | .keepOut => 6
  | .noContact => 7
  | .contactLost => 8
  | .headWorn => 9
  | .headUnavailable => 10
  | .blocked => 11
  | .driveFailure => 12
  | .badStep => 13
  | .done => 14
  | .pointsTooClose => 16

/-- A run state's code in STATE and in the fault record (R193, R195). -/
def RunState.code : RunState → Nat
  | .idle => 0
  | .loading => 1
  | .running => 2
  | .draining => 3
  | .stopped => 4
  | .guarded => 5
  | .faulted => 6

/-- A fault kind's code (R193). -/
def FaultKind.code : FaultKind → Nat
  | .configInvalid => 1
  | .memoryWindow => 2
  | .badPage => 3
  | .driveTimeout => 4
  | .driveFault => 5
  | .lateReply => 6
  | .linkFrame => 7
  | .positionError => 8
  | .contactInTravel => 9
  | .headWorn => 10
  | .stepStalled => 11
  | .guardTrip => 12

/-- An order's frame code (R194). -/
def OrderKind.code : OrderKind → Nat
  | .goto => 1
  | .descend => 2
  | .raise => 3
  | .halt => 4
  | .home => 5

/-- The eight reply kinds (R87). -/
inductive ReplyKind where
  | reached
  | touched
  | bottomed
  | raised
  | homed
  | halted
  | refused
  | fault
  deriving DecidableEq, Repr

/-- A reply's frame code (R194). -/
def ReplyKind.code : ReplyKind → Nat
  | .reached => 0x81
  | .touched => 0x82
  | .bottomed => 0x83
  | .raised => 0x84
  | .homed => 0x85
  | .halted => 0x86
  | .refused => 0x8E
  | .fault => 0x8F

/-- The reply a frame code names, none for an unknown code (R85, R194). -/
def ReplyKind.ofCode (c : Nat) : Option ReplyKind :=
  match c with
  | 0x81 => some .reached
  | 0x82 => some .touched
  | 0x83 => some .bottomed
  | 0x84 => some .raised
  | 0x85 => some .homed
  | 0x86 => some .halted
  | 0x8E => some .refused
  | 0x8F => some .fault
  | _ => none

/-- Whether a reply fits an order other than HALT (R87). -/
def ReplyKind.fits (r : ReplyKind) (k : OrderKind) : Bool :=
  match r, k with
  | .reached, .goto => true
  | .touched, .descend => true
  | .bottomed, .descend => true
  | .raised, .raise => true
  | .homed, .home => true
  | .halted, .halt => true
  | .refused, _ => true
  | .fault, _ => true
  | _, _ => false

/-! ### What the part writes (R190) -/

/-- A head id byte, 0xFF for none (R192, R193). -/
def headByte (h : Option HeadId) : Nat := match h with | some h => h.val | none => 0xFF

/-- A side byte, 0xFF for none (R193). -/
def sideByte (d : Option Side) : Nat :=
  match d with
  | some .top => 0
  | some .bottom => 1
  | none => 0xFF

def flagBit (b : Bool) (i : Nat) : Nat := if b then 2 ^ i else 0

/-- The flags field of a result (R192). -/
def ResultFlags.code (f : ResultFlags) : Nat :=
  flagBit f.highClamp 0 + flagBit f.lowClamp 1 + flagBit f.complianceSeen 2 + flagBit f.reranged 3
    + flagBit f.retouched 4 + flagBit f.partialPark 5

/-- The 30 bytes of a result's items, record offsets 0x62-0x7F (R23, R192). -/
def resultItems (e : Entry) : BitVec 256 :=
  let d : BitVec 256 := 0
  let d := putField d 0x00 2 e.flags.code
  let d := putField d 0x02 1 e.finalRange
  let d := putField d 0x03 1 e.attempts
  let d := putField d 0x04 1 (headByte e.a.head)
  let d := putField d 0x05 1 (headByte e.b.head)
  let d := putField d 0x06 8 e.value
  let d := putField d 0x0E 6 e.landingTime.toNat
  let d := putField d 0x14 1 e.a.used
  let d := putField d 0x15 1 e.b.used
  putField d 0x16 6 e.endTime.toNat

/-- The status field of a result: 0 where no verdict is recorded (R22). -/
def resultStatus (e : Entry) : Nat := match e.verdict with | some v => v.code | none => 0

/-- The 32 bytes of a fault record (R193). -/
def faultBytes (f : FaultRecord) : BitVec 256 :=
  let d : BitVec 256 := 0
  let d := putField d 0x00 1 f.kind.code
  let d := putField d 0x01 1 (headByte f.head)
  let d := putField d 0x02 1 (sideByte f.side)
  let d := putField d 0x03 1 f.cause
  let d := putField d 0x04 4 f.seq.toNat
  let d := putField d 0x08 2 (f.idx.getD 0xFFFF)
  let d := putField d 0x0A 1 f.run.code
  let d := putField d 0x0C 4 f.detail.toNat
  putField d 0x10 6 f.time.toNat

/-- The detail word of DRIVE_FAULT: order kind over the low 24 bits of the reply's argument (R193). -/
def driveDetail (k : OrderKind) (arg : Word) : Word :=
  BitVec.ofNat 32 (k.code * 2 ^ 24 + arg.toNat % 2 ^ 24)

/-- The detail word of DRIVE_TIMEOUT and LATE_REPLY: a code over a tag (R193). -/
def codeTagDetail (code : Nat) (tag : Byte) : Word := BitVec.ofNat 32 (code * 2 ^ 8 + tag.toNat)

/-! ### Lane frames (R194) -/

/-- The first eleven bytes of a frame, check byte 0. -/
def frameBody (code : Nat) (tag : Byte) (a1 a2 : Word) : BitVec 96 :=
  let d : BitVec 96 := 0
  let d := putField d 0 1 Config.startByte.toNat
  let d := putField d 1 1 code
  let d := putField d 2 1 tag.toNat
  let d := putField d 3 4 a1.toNat
  putField d 7 4 a2.toNat

/-! ### The page header (R192) -/

def headerSignature (d : Block) : Nat := fieldNat d 0x00 4
def headerSequence (d : Block) : Word := d.extractLsb' 32 32
def headerFilled (d : Block) : Nat := fieldNat d 0x08 2
def headerComplete (d : Block) : Bool := fieldNat d 0x0A 2 != 0
def headerRetired (d : Block) : Nat := fieldNat d 0x0C 4
def headerNext (d : Block) : Addr := d.extractLsb' 128 64

/-! ### The control block (R191) -/

abbrev ControlBlock := BitVec 16384

def cbSignature (b : ControlBlock) : Nat := fieldNat b 0x000 4
def cbVersion (b : ControlBlock) : Nat := fieldNat b 0x004 2
def cbWindowBase (b : ControlBlock) : Addr := b.extractLsb' (8 * 0x008) 64
def cbWindowLimit (b : ControlBlock) : Addr := b.extractLsb' (8 * 0x010) 64
def cbCursorPage (b : ControlBlock) : Addr := b.extractLsb' (8 * 0x018) 64
def cbCursorIndex (b : ControlBlock) : Nat := fieldNat b 0x020 2
def cbLogBase (b : ControlBlock) : Addr := b.extractLsb' (8 * 0x028) 64
def cbLogSize (b : ControlBlock) : Nat := fieldNat b 0x030 1
def cbLogWrite (b : ControlBlock) : Word := b.extractLsb' (8 * 0x034) 32
def cbLogRead (b : ControlBlock) : Word := b.extractLsb' (8 * 0x038) 32
def cbWidth (b : ControlBlock) : Nat := fieldNat b 0x040 4
def cbMargin (b : ControlBlock) : Nat := fieldNat b 0x044 1
def cbArea (b : ControlBlock) : PerSide WorkArea :=
  ⟨⟨fieldNat b 0x048 4, fieldNat b 0x04C 4⟩, ⟨fieldNat b 0x050 4, fieldNat b 0x054 4⟩⟩
def cbDescent (b : ControlBlock) : PerSide Nat := ⟨fieldNat b 0x058 4, fieldNat b 0x05C 4⟩
def cbTolerance (b : ControlBlock) : Nat := fieldNat b 0x060 2
def cbGotoTimeout (b : ControlBlock) : Nat := fieldNat b 0x064 2
def cbDescendTimeout (b : ControlBlock) : Nat := fieldNat b 0x066 2
def cbRaiseTimeout (b : ControlBlock) : Nat := fieldNat b 0x068 2
def cbHomeTimeout (b : ControlBlock) : Nat := fieldNat b 0x06A 2
def cbStallLimit (b : ControlBlock) : Nat := fieldNat b 0x06C 4
def cbPollInterval (b : ControlBlock) : Nat := fieldNat b 0x070 2
def cbSecondarySettle (b : ControlBlock) : Nat := fieldNat b 0x072 2
def cbCompliance (b : ControlBlock) : Nat := fieldNat b 0x074 1
def cbContactCode (b : ControlBlock) : Nat := fieldNat b 0x075 1
def cbGuardCode (b : ControlBlock) : Nat := fieldNat b 0x076 1
def cbPolarity (b : ControlBlock) : Bool := fieldFlag b 0x077

/-- Byte offset of a head's entry in the control block (R191). -/
def headEntryOffset (h : HeadId) : Nat := 0x080 + 32 * h.val

def cbHomeX (b : ControlBlock) (h : HeadId) : Int := fieldInt b (headEntryOffset h) 4
def cbHomeY (b : ControlBlock) (h : HeadId) : Int := fieldInt b (headEntryOffset h + 0x04) 4
def cbEnabled (b : ControlBlock) (h : HeadId) : Bool := fieldFlag b (headEntryOffset h + 0x08)
def cbWearLimit (b : ControlBlock) (h : HeadId) : Nat := fieldNat b (headEntryOffset h + 0x0C) 4
def cbTouches (b : ControlBlock) (h : HeadId) : Nat := fieldNat b (headEntryOffset h + 0x10) 4
def cbLead (b : ControlBlock) (h : HeadId) : Nat := fieldNat b (headEntryOffset h + 0x14) 4

/-- A keep-out rectangle at a byte offset (R191). -/
def rectAt (b : ControlBlock) (off : Nat) : Rect :=
  { xmin := fieldInt b off 4, ymin := fieldInt b (off + 4) 4, xmax := fieldInt b (off + 8) 4,
    ymax := fieldInt b (off + 12) 4 }

/-- The 16 keep-out rectangles of each side (R191). -/
def cbKeepOut (b : ControlBlock) : PerSide (List Rect) :=
  ⟨(List.range 16).map fun j => rectAt b (0x180 + 16 * j), (List.range 16).map fun j => rectAt b (0x280 + 16 * j)⟩

/-- The initial transform of an image and side (R191). An invalid one's other fields are not examined (R26) and are
loaded as 0 (notes/assumptions/44.md). -/
def cbTransform (b : ControlBlock) (g : Nat) (d : Side) : Transform :=
  let off := 0x380 + 32 * (2 * g + (match d with | .top => 0 | .bottom => 1))
  if fieldFlag b off then
    { valid := true, mirror := fieldFlag b (off + 1), kppm := fieldInt b (off + 4) 4, ox := fieldInt b (off + 8) 4,
      oy := fieldInt b (off + 0x0C) 4, c := fieldInt b (off + 0x10) 4, s := fieldInt b (off + 0x14) 4 }
  else .atReset

/-- The eight initial transforms (R191). -/
def cbTransforms (b : ControlBlock) : PerImage (PerSide Transform) :=
  let t (g : Nat) : PerSide Transform := ⟨cbTransform b g .top, cbTransform b g .bottom⟩
  ⟨t 0, t 1, t 2, t 3⟩

/-- The block with the 128 bytes of read i stored at their place (R165). -/
def ControlBlock.put (b : ControlBlock) (i : Nat) (d : Block) : ControlBlock :=
  putField b (128 * i) 128 d.toNat

/-- A control block that holds nothing but `d` at a byte offset: the view of a RELOAD's read (R191). -/
def ControlBlock.viewAt (off : Nat) (d : Block) : ControlBlock := (d.setWidth 16384) <<< (8 * off)

end Sys2Proof.Machine
end

