-- ==== Sys2Proof/Machine/Geometry.lean ====
section
/-! DEFINITION. The Frame Unit's arithmetic (02_board_images_and_machine_coordinates) and the bands, footprints and
sweeps built on it (R63). -/

namespace Sys2Proof.Machine

/-- n ÷ d rounded half away from zero, for d > 0 (R32, R123). -/
def roundHalfAway (n : Int) (d : Nat) : Int :=
  let q : Int := ((2 * n.natAbs + d) / (2 * d) : Nat)
  if n < 0 then -q else q

/-- The FRAME validity bounds (R29). -/
def Transform.inBounds (t : Transform) : Bool :=
  decide (-1048576 ≤ t.c ∧ t.c ≤ 1048576 ∧ -1048576 ≤ t.s ∧ t.s ≤ 1048576
    ∧ 1095216660480 ≤ t.c * t.c + t.s * t.s ∧ t.c * t.c + t.s * t.s ≤ 1103806595072
    ∧ -2000 ≤ t.kppm ∧ t.kppm ≤ 2000)

/-- A CAD coordinate is within range (R30). -/
def inCadRange (v : Int) : Bool := decide (-1000000 ≤ v ∧ v ≤ 1000000)

/-- The rotated point in units of 2^-20 µm (R31). -/
def rotatePoint (t : Transform) (xc yc : Int) : Int × Int := (xc * t.c - yc * t.s, xc * t.s + yc * t.c)

/-- The scaled and rounded coordinate (R32). -/
def scaleCoord (t : Transform) (v : Int) : Int := roundHalfAway (v * (1000000 + t.kppm)) 1048576000000

/-- A CAD point carried to a machine point, none when it is out of the CAD range (R30-R33). -/
def transformPoint (t : Transform) (xc yc : Int) : Option (Int × Int) :=
  if inCadRange xc && inCadRange yc then
    let xc := if t.mirror then -xc else xc
    let r := rotatePoint t xc yc
    some (t.ox + scaleCoord t r.1, t.oy + scaleCoord t r.2)
  else none

/-- The reach check (R34). -/
def inReach (a : WorkArea) (p : Int × Int) : Bool :=
  decide (0 ≤ p.1 ∧ p.1 ≤ a.xmax ∧ 0 ≤ p.2 ∧ p.2 ≤ a.ymax)

/-- A rectangle is enabled (R35). -/
def Rect.enabled (r : Rect) : Bool := decide (r.xmin ≤ r.xmax ∧ r.ymin ≤ r.ymax)

/-- A point lies inside an enabled rectangle (R36). -/
def Rect.hits (r : Rect) (p : Int × Int) : Bool :=
  r.enabled && decide (r.xmin ≤ p.1 ∧ p.1 ≤ r.xmax ∧ r.ymin ≤ p.2 ∧ p.2 ≤ r.ymax)

/-- A point lies in a keep-out area (R36). -/
def inKeepOut (rs : List Rect) (p : Int × Int) : Bool := rs.any (·.hits p)

/-- The band of a machine X, limited to 0-63 (R37). -/
def bandOf (w : Nat) (x : Int) : Nat := min (x.toNat / w) Config.maxBand

/-- The footprint about a band, clipped to 0-63 (R63). -/
def footprintAt (m b : Nat) : Range := ⟨b - m, min (b + m) Config.maxBand⟩

/-- The sweep between two bands, clipped to 0-63 (R63). -/
def sweepBetween (m bp bt : Nat) : Range := ⟨min bp bt - m, min (max bp bt + m) Config.maxBand⟩

/-- The offset of retouch attempt r (R39). -/
def retouchOffset (r : Nat) (delta : Int) : Int × Int :=
  match r with
  | 1 => (delta, 0)
  | 2 => (-delta, 0)
  | 3 => (0, delta)
  | _ => (0, 0)

/-- A position is within tolerance of a reference (R44, R94). -/
def withinTolerance (tol : Nat) (x y x0 y0 : Int) : Bool :=
  decide ((x - x0).natAbs ≤ tol ∧ (y - y0).natAbs ≤ tol)

/-- The larger of the two deviations (R94). -/
def largerDeviation (x y x0 y0 : Int) : Nat := max (x - x0).natAbs (y - y0).natAbs

/-- A band lies in a range. -/
def Range.has (r : Range) (b : Nat) : Bool := r.lo ≤ b && b ≤ r.hi

/-- Two ranges share a band. -/
def Range.meets (r q : Range) : Bool := max r.lo q.lo ≤ min r.hi q.hi

/-- The bands of a range, in rising order. -/
def Range.bands (r : Range) : List Nat := (List.range (r.hi + 1 - r.lo)).map (r.lo + ·)

/-- The number of bands of a range (R74). -/
def Range.width (r : Range) : Nat := r.hi + 1 - r.lo

end Sys2Proof.Machine
end

