-- ==== Sys2Proof/Machine/Ops.lean ====
section
/-! DEFINITION. The named operations every block's rules are written over: the accessors of State, the Bus Interface's
checked accesses (R143, R157), the free choices, and the Event Unit's events, interrupt message and fault log
(10_fault_log_and_event_signalling). -/

namespace Sys2Proof.Machine

/-! ### Accessors -/

def State.head (s : State) (h : HeadId) : Head := s.heads.get h
def State.setHead (s : State) (h : HeadId) (x : Head) : State := { s with heads := s.heads.set h x }
def State.modHead (s : State) (h : HeadId) (f : Head → Head) : State := s.setHead h (f (s.head h))

def State.lane (s : State) (l : HeadId) : Lane := s.lanes.get l
def State.setLane (s : State) (l : HeadId) (x : Lane) : State := { s with lanes := s.lanes.set l x }
def State.modLane (s : State) (l : HeadId) (f : Lane → Lane) : State := s.setLane l (f (s.lane l))

def State.contact (s : State) (h : HeadId) : Contact := s.ctm.heads.get h
def State.modContact (s : State) (h : HeadId) (f : Contact → Contact) : State :=
  { s with ctm := { s.ctm with heads := s.ctm.heads.set h (f (s.contact h)) } }

def State.modMen (s : State) (f : Engine → Engine) : State := { s with men := f s.men }
def State.modPlr (s : State) (f : PlanReader → PlanReader) : State := { s with plr := f s.plr }
def State.modRun (s : State) (f : RunControl → RunControl) : State := { s with run := f s.run }
def State.modBus (s : State) (f : BusInterface → BusInterface) : State := { s with bus := f s.bus }
def State.modEvu (s : State) (f : EventUnit → EventUnit) : State := { s with evu := f s.evu }
def State.modDue (s : State) (f : Due → Due) : State := { s with due := f s.due }

/-- The window entry at a plan position (R1). -/
def State.entry? (s : State) (p : Pos) : Option Entry := s.window.find? (fun e => e.pos = p)

/-- The window with the entry at a plan position changed; its position stays. -/
def modEntries (p : Pos) (f : Entry → Entry) (es : List Entry) : List Entry :=
  es.map fun e => if e.pos = p then { f e with pos := e.pos } else e

def State.modEntry (s : State) (p : Pos) (f : Entry → Entry) : State :=
  { s with window := modEntries p f s.window }

/-- A point record of an entry. -/
def Entry.point (e : Entry) (n : PointName) : Point := match n with | .a => e.a | .b => e.b

/-- The entry with a point record changed. -/
def Entry.modPoint (e : Entry) (n : PointName) (f : Point → Point) : Entry :=
  match n with
  | .a => { e with a := f e.a }
  | .b => { e with b := f e.b }

def State.modPoint (s : State) (p : Pos) (n : PointName) (f : Point → Point) : State :=
  s.modEntry p (·.modPoint n f)

/-- A point record as R1 creates it. -/
def Point.fresh : Point :=
  { head := none, phase := .idle, used := 0, target := none, cause := none, retouchTarget := none }

/-- No result flag (R1). -/
def ResultFlags.clear : ResultFlags := ⟨false, false, false, false, false, false⟩

/-- A step entry as R1 creates it, PENDING. -/
def Entry.fresh (pos : Pos) (addr : Addr) (request : BitVec 768) : Entry :=
  { pos := pos, addr := addr, request := request, phase := .pending, a := .fresh, b := .fresh, verdict := none,
    flags := .clear, value := 0, finalRange := 0, attempts := 0, landingTime := 0, endTime := 0, written := false,
    stall := none, group := none, markWrite := none }

/-- The entry's kind, none for an unknown kind (R192). -/
def Entry.kind (e : Entry) : Option StepKind := reqKind e.request

/-- The points the entry uses (R3, R4). -/
def Entry.points (e : Entry) : List PointName := reqPoints e.request

/-- The head assigned to one of the step's points. -/
def Entry.holds (e : Entry) (h : HeadId) : Bool := e.a.head = some h || e.b.head = some h

/-- The side of a point's selector; top stands in where the selector has none, which dispatch refuses (R10). -/
def Entry.sideOf (e : Entry) (n : PointName) : Side := (selectorSide (reqSelector e.request n)).getD .top

/-! ### Bands in force (R37, R63, R64) -/

def State.band (s : State) (x : Int) : Nat := bandOf s.fru.width x
def State.footprint (s : State) (x : Int) : Range := footprintAt s.fru.margin (s.band x)
def State.sweep (s : State) (p t : Int) : Range := sweepBetween s.fru.margin (s.band p) (s.band t)

/-- The head of a side that holds a band, none when the band is free (R62). -/
def State.holder (s : State) (d : Side) (b : Nat) : Option HeadId :=
  d.heads.find? fun h => match (s.head h).held with | some r => r.has b | none => false

/-- Two held ranges of one side keep the laws of R62: disjoint, and in the order of the indices. -/
def rangesLawful (i j : Nat) (r q : Range) : Bool :=
  if i < j then decide (r.hi < q.lo) else if j < i then decide (q.hi < r.lo) else true

/-- Head h may hold range r, of bands 0-63, beside what every other head of its side holds: the laws of R62. -/
def State.mayHold (s : State) (h : HeadId) (r : Range) : Bool :=
  decide (r.lo ≤ r.hi ∧ r.hi ≤ Config.maxBand) && h.side.heads.all fun g =>
    g == h || match (s.head g).held with | some q => rangesLawful h.index g.index r q | none => true

/-- CLA rewrites a head's entries. A range that would break a law of R62 is not written (R62). -/
def State.writeBands (s : State) (h : HeadId) (r : Option Range) : State :=
  match r with
  | none => s.modHead h fun x => { x with held := none }
  | some r => if s.mayHold h r then s.modHead h fun x => { x with held := some r } else s

/-- An evaluation of a side is called for (R67). -/
def State.callEval (s : State) (d : Side) : State :=
  s.modDue fun u => match d with | .top => { u with evalTop := true } | .bottom => { u with evalBottom := true }

/-! ### Free choices (notes/assumptions/8.md) -/

/-- The next free choice among n things, and the state with it drawn. One thing or none leaves no choice. -/
def State.choose (s : State) (n : Nat) : Nat × State :=
  if n ≤ 1 then (0, s) else (Config.freeChoice s.choices % n, { s with choices := s.choices + 1 })

/-! ### Host accesses (R143, R157) -/

/-- An access of b bytes lies wholly within a block of bytes (R143). Addresses do not wrap here: of a block that reaches over
the end of the address space, the wrapped part lies outside (notes/assumptions/50.md). -/
def spanInside (base : Addr) (size : Nat) (a : Addr) (b : Nat) : Bool :=
  decide (base.toNat ≤ a.toNat ∧ a.toNat + b ≤ base.toNat + size)

/-- An access of b bytes lies inside a memory window (R143). -/
def inWindow (w : Option (Addr × Addr)) (a : Addr) (b : Nat) : Bool :=
  match w with
  | none => false
  | some (base, limit) => decide (base.toNat ≤ a.toNat ∧ a.toNat + b ≤ limit.toNat + 1)

/-- BIF's check of an access: inside the control block in force or the window in force (R143). -/
def State.allowed (s : State) (a : Addr) (b : Nat) : Bool :=
  spanInside s.bus.cba Config.blockBytes a b || inWindow s.bus.window a b

/-- A write joins the queue of host writes, in the order requested (R157). -/
def State.pushWrite (s : State) (tag : WriteTag) (addr : Addr) (len : Nat) (data : BitVec 256) : State :=
  s.modBus fun b =>
    { b with writes := b.writes ++ [⟨b.nextWrite, tag, addr, len, data⟩], nextWrite := b.nextWrite + 1 }

/-- A read goes out, stamped with the read generation (R140). -/
def State.pushRead (s : State) (purpose : ReadPurpose) (addr : Addr) : State :=
  s.modBus fun b =>
    { b with
      reads := b.reads ++ [⟨b.nextRead, purpose, addr, s.plr.generation, 0, none⟩]
      nextRead := b.nextRead + 1 }

/-! ### Events and the interrupt message (R186-R189) -/

/-- The eight events, in the order of their priority codes 1-8 (R186). -/
inductive Event where
  | faulted
  | guardOpen
  | logOverflow
  | faultLogged
  | commandRefused
  | mark
  | stopped
  | starved
  deriving DecidableEq, Repr

/-- An event's priority code (R186). -/
def Event.code : Event → Nat
  | .faulted => 1
  | .guardOpen => 2
  | .logOverflow => 3
  | .faultLogged => 4
  | .commandRefused => 5
  | .mark => 6
  | .stopped => 7
  | .starved => 8

/-- An event's bit in EVENTS and EVENT_ENABLE (R195). -/
def Event.bit (e : Event) : BitVec 8 := 1#8 <<< (e.code - 1)

/-- The interrupt condition (R188). -/
def interruptCondition (events enables : BitVec 8) : Bool := events &&& enables != 0#8

/-- EVENTS and EVENT_ENABLE take new values; a rise of the condition queues one interrupt message if the function's
enable is set at the rise (R188, R189, notes/assumptions/51.md). The message's address, length and data are not the part's
to hold and stand as 0 (notes/assumptions/52.md). -/
def State.putEvents (s : State) (events enables : BitVec 8) : State :=
  let s' := s.modEvu fun v => { v with events := events, enables := enables }
  if !interruptCondition s.evu.events s.evu.enables && interruptCondition events enables && s.bus.msiEnable then
    s'.pushWrite .message 0 0 0
  else s'

/-- An event flag is set (R186). -/
def State.setEvent (s : State) (e : Event) : State := s.putEvents (s.evu.events ||| e.bit) s.evu.enables

/-! ### The fault log (R179-R185) -/

/-- Overflow is set; going from clear to set it sets LOG_OVERFLOW (R184). -/
def State.setOverflow (s : State) : State :=
  if s.evu.overflow then s else (s.modEvu fun v => { v with overflow := true }).setEvent .logOverflow

/-- Records written and not yet read, as far as the part knows, modulo 2^32 (R180). -/
def EventUnit.unread (v : EventUnit) : Nat := (v.writeIdx - v.readIdx).toNat

/-- There is room in the ring (R182). -/
def EventUnit.room (v : EventUnit) : Bool := v.unread < 2 ^ v.sizeCode

/-- The host address of the slot of an index (R180). -/
def logSlot (base : Addr) (sizeCode : Nat) (idx : Word) : Addr :=
  base + BitVec.ofNat 64 (32 * (idx.toNat % 2 ^ sizeCode))

/-- EVU records a fault: the record's write, the index's write, the index raised, FAULT_LOGGED (R182). A write that BIF
refuses records nothing and calls for FAULTED (notes/assumptions/7.md). -/
def State.recordFault (s : State) (f : FaultRecord) : State :=
  let slot := logSlot s.evu.base s.evu.sizeCode s.evu.writeIdx
  let next := s.evu.writeIdx + 1
  if s.allowed slot 32 then
    let s := s.pushWrite .faultRecord slot 32 (faultBytes f)
    let s := s.pushWrite .logIndex (s.bus.cba + 0x034) 4 (next.setWidth 256)
    (s.modEvu fun v => { v with writeIdx := next }).setEvent .faultLogged
  else s.modDue fun u => { u with faulted := true }

/-- EVU starts the re-read of the log's read index (R183). -/
def State.startReread (s : State) : State :=
  let id := s.bus.nextRead
  (s.pushRead .logIndex (s.bus.cba + 0x038)).modEvu fun v => { v with reread := some id }

/-- EVU takes a submission (R182). -/
def State.takeFault (s : State) (f : FaultRecord) : State :=
  if !s.evu.inForce then s
  else if s.evu.overflow then s
  else if s.evu.reread.isSome then
    if Config.pendingFaults ≤ s.evu.pendingFaults.length then s.setOverflow
    else s.modEvu fun v => { v with pendingFaults := v.pendingFaults ++ [f] }
  else if s.evu.room then s.recordFault f
  else (s.modEvu fun v => { v with pendingFaults := v.pendingFaults ++ [f] }).startReread

/-- What a submitting block supplies (R179). -/
structure Submission where
  kind : FaultKind
  head : Option HeadId
  side : Option Side
  /-- the step named, as page sequence and record index -/
  seq : Word
  idx : Option Nat
  cause : Nat
  detail : Word
  deriving DecidableEq, Repr

/-- A submission stamped with the time base and with the run state before any change on the event (R179). -/
def State.stamp (s : State) (b : Submission) : FaultRecord :=
  { kind := b.kind, head := b.head, side := b.side, seq := b.seq, idx := b.idx, cause := b.cause, detail := b.detail,
    time := s.tmb.ticks, run := s.due.runBefore }

/-- A block submits a fault to EVU (R178). -/
def State.submit (s : State) (b : Submission) : State := s.takeFault (s.stamp b)

/-- The step a fault names: its position's sequence, or 0 (R179). -/
def stepSeq (p : Option Pos) : Word := match p with | some q => q.seq | none => 0
/-- The step a fault names: its position's index, or none (R179). -/
def stepIdx (p : Option Pos) : Option Nat := p.map (·.idx)

/-- A fault of the part that names no head (R179). -/
def State.submitPart (s : State) (kind : FaultKind) (step : Option Pos) (cause : Nat) (detail : Word) : State :=
  s.submit ⟨kind, none, none, stepSeq step, stepIdx step, cause, detail⟩

/-- A fault that names a head, its side and the head's assigned step (R99). -/
def State.submitHead (s : State) (kind : FaultKind) (h : HeadId) (cause : Nat) (detail : Word) : State :=
  s.submit ⟨kind, some h, some h.side, stepSeq (s.head h).assigned, stepIdx (s.head h).assigned, cause, detail⟩

/-- BIF refuses an access: MEMORY_WINDOW "outside window" is submitted and RUN is to enter FAULTED (R143). -/
def State.refuseAccess (s : State) (step : Option Pos) (seq : Word) (addr : Addr) : State :=
  (s.submit ⟨.memoryWindow, none, none, seq, stepIdx step, 1, addr.setWidth 32⟩).modDue
    fun u => { u with faulted := true }

/-- A block requests a host write; `step` is the step it belongs to, if any (R143, R157). -/
def State.requestWrite (s : State) (tag : WriteTag) (addr : Addr) (len : Nat) (data : BitVec 256)
    (step : Option Pos) : State :=
  if s.allowed addr len then s.pushWrite tag addr len data else s.refuseAccess step (stepSeq step) addr

/-- A block requests a host read of `len` bytes (R143). -/
def State.requestRead (s : State) (purpose : ReadPurpose) (addr : Addr) (len : Nat) (step : Option Pos)
    (seq : Word) : State :=
  if s.allowed addr len then s.pushRead purpose addr else s.refuseAccess step seq addr

/-- The pending list is worked through, oldest first: an entry with room is recorded; the first that finds the ring full
sets overflow and the rest are lost (R183). Under overflow nothing is recorded (R184). -/
def drainPending : List FaultRecord → State → State
  | [], s => s
  | f :: fs, s =>
    if s.evu.overflow then s
    else if s.evu.room then drainPending fs (s.recordFault f)
    else s.setOverflow

/-- The re-read ends with value r: r is taken if it leaves at most 2^n unread, then the pending list is worked through
(R183). -/
def State.finishReread (s : State) (r : Word) : State :=
  let taken := decide ((s.evu.writeIdx - r).toNat ≤ 2 ^ s.evu.sizeCode)
  let list := s.evu.pendingFaults
  let s := s.modEvu fun v =>
    { v with readIdx := if taken then r else v.readIdx, reread := none, pendingFaults := [] }
  drainPending list s

/-- The re-read ends in an access error: the ring is taken as still full (R183). -/
def State.failReread (s : State) : State :=
  (s.modEvu fun v => { v with reread := none, pendingFaults := [] }).setOverflow

/-- The end of a LOADING discards the pending list and any re-read in flight (R181). -/
def State.dropReread (s : State) : State :=
  (s.modEvu fun v => { v with reread := none, pendingFaults := [] }).modBus
    fun b => { b with reads := b.reads.filter fun r => r.purpose ≠ .logIndex }

/-! ### Write-back (R55, R155, R158) -/

/-- The control block's cursor is written: page address, step index, six reserved bytes (R191). -/
def State.writeCursor (s : State) : State :=
  s.requestWrite .cursor (s.bus.cba + 0x018) 16
    (putField (putField (0 : BitVec 256) 0 8 s.plr.cursorAddr.toNat) 8 2 s.plr.cursorIdx) none

/-- One head's touch count and lead value are written (R55, R191). -/
def State.writeCounts (s : State) (h : HeadId) : State :=
  s.requestWrite (.counts h) (s.bus.cba + BitVec.ofNat 64 (headEntryOffset h + 0x10)) 8
    (putField (putField (0 : BitVec 256) 0 4 (s.head h).touches) 4 4 (s.head h).lead) none

/-- The eight heads' counts and leads are written (R55). -/
def State.writeAllCounts (s : State) : State := allHeads.foldl State.writeCounts s

/-- The write-back of an entry to STOPPED or FAULTED, when the plan loaded flag is set (R55, R158). -/
def State.writeBack (s : State) : State := if s.plr.planLoaded then s.writeCursor.writeAllCounts else s

end Sys2Proof.Machine
end

