-- ==== Sys2Proof/Machine/Flags.lean ====
section
/-! DEFINITION. The values the host reads from the registers (R163, R187, R195), and the states the spec derives from
others: the step states of R6, the lane states of R88 and the guard raw level of R172. -/

namespace Sys2Proof.Machine

/-! ### Derived states -/

/-- The ten states of a measurement step, with ACTIVE for a control step (R6, R8). -/
inductive StepState where
  | pending
  | waiting
  | yielding
  | travelling
  | touching
  | retouching
  | landed
  | measuring
  | lifting
  | active
  | done
  deriving DecidableEq, Repr

/-- Some used point of the step is in a phase. -/
def Entry.somePoint (e : Entry) (ph : PointPhase) : Bool := e.points.any fun n => (e.point n).phase = ph

/-- Every used point of the step is LANDED. -/
def Entry.allLanded (e : Entry) : Bool := e.points.all fun n => (e.point n).phase = .landed

/-- A step's state as R6 derives it, the tests in the order RETOUCHING, TRAVELLING, TOUCHING, then LANDED or
MEASURING. -/
def State.stepState (s : State) (e : Entry) : StepState :=
  match e.phase with
  | .pending => .pending
  | .waiting => .waiting
  | .yielding => .yielding
  | .lifting => .lifting
  | .active => .active
  | .done => .done
  | .granted =>
    if e.somePoint .retouching then .retouching
    else if e.somePoint .moving then .travelling
    else if e.somePoint .descending || e.somePoint .settling then .touching
    else if s.men.served = some e.pos then .measuring
    else .landed

/-- The lane states FREE, ORDER and HALT (R88). -/
inductive LaneState where
  | free
  | order
  | halt
  deriving DecidableEq, Repr

/-- A lane's state (R88). -/
def Lane.state (l : Lane) : LaneState :=
  match l.out with
  | .free => .free
  | .order _ => .order
  | .halt _ => .halt

/-- The discharge switch of CAP: closed, so that node A is held at the fixture plane, while the source is off, as in a CAP
settle; the source that CHARGE switches on opens it and the end of the charge closes it again (R121, R125,
notes/assumptions/56.md). -/
def Engine.discharging (m : Engine) : Bool := m.source.isNone

/-- The guard raw level, the pin read through the polarity: true is open (R161, R172). -/
def RunControl.guardRaw (r : RunControl) : Bool := r.guardPin == r.polarity

/-! ### Registers (R163, R187, R195) -/

/-- The value TOP_EVENT reads: the code of the set and enabled flag of highest priority, or 0 (R187). -/
def topEvent (events enables : BitVec 8) : Nat :=
  match (List.range 8).find? fun i => (events &&& enables).getLsbD i with
  | some i => i + 1
  | none => 0

/-- The value STATE reads (R163, R195). -/
def State.stateRegister (s : State) : Word :=
  BitVec.ofNat 32 (s.run.state.code + flagBit s.run.guardOpen 3 + flagBit s.sides.top 4 + flagBit s.sides.bottom 5
    + flagBit s.evu.overflow 6 + s.window.length % 32 * 2 ^ 8)

/-- The value of the 32-bit register at a word offset of the region; an offset with no register reads 0 (R163, R195). -/
def State.readRegister (s : State) (offset : Nat) : Word :=
  match offset with
  | 0x00 => Config.idRegister
  | 0x04 => s.regs.cbaLo
  | 0x08 => s.regs.cbaHi
  | 0x10 => s.stateRegister
  | 0x14 => s.evu.events.setWidth 32
  | 0x18 => s.evu.enables.setWidth 32
  | 0x1C => BitVec.ofNat 32 (topEvent s.evu.events s.evu.enables)
  | _ => 0

/-- One byte of the region, as a read of any width returns it (R195). -/
def State.readRegisterByte (s : State) (offset : Nat) : Byte :=
  (s.readRegister (offset - offset % 4)).extractLsb' (8 * (offset % 4)) 8

/-- The bytes that a read of `width` bytes at `offset` returns, lowest first (R195). -/
def State.readRegisterBytes (s : State) (offset width : Nat) : List Byte :=
  (List.range width).map fun i => s.readRegisterByte (offset + i)

end Sys2Proof.Machine
end

