-- ==== Sys2Proof/WellFormed.lean ====
section
/-! DEFINITION. Which command terms stand for an event of their own row. A term outside this set (a COMMAND write of 1
spelled as UNKNOWN_COMMAND, an undamaged frame spelled as DAMAGED_FRAME) still has the meaning its register
access or frame has (notes/assumptions/27.md). -/

namespace Sys2Proof

/-- One bit step of the lane CRC-8: generator x^8 + x^2 + x + 1, most significant bit first (R84). -/
def crcBit (c : Byte) : Byte := if c.msb then (c <<< 1) ^^^ 0x07#8 else c <<< 1

/-- One byte fed to the lane CRC (R84). -/
def crcByte (c b : Byte) : Byte :=
  crcBit (crcBit (crcBit (crcBit (crcBit (crcBit (crcBit (crcBit (c ^^^ b))))))))

/-- Byte i of a frame (R194). -/
def frameByte (f : BitVec 96) (i : Nat) : Byte := f.extractLsb' (8 * i) 8

/-- The CRC-8 over the first eleven bytes of a frame (R84). -/
def frameCrc (f : BitVec 96) : Byte :=
  [0, 1, 2, 3, 4, 5, 6, 7, 8, 9, 10].foldl (fun c i => crcByte c (frameByte f i)) 0#8

/-- The eight reply codes (R87, R194). -/
def isReplyCode (c : Byte) : Bool :=
  c ∈ [0x81#8, 0x82#8, 0x83#8, 0x84#8, 0x85#8, 0x86#8, 0x8E#8, 0x8F#8]

/-- A received frame that R85 discards: its check byte fails or its code is no reply code. -/
def frameDamaged (f : BitVec 96) : Bool :=
  frameCrc f != frameByte f 11 || !isReplyCode (frameByte f 1)

/-- A COMMAND value that names a command (R195). -/
def namesCommand (v : Word) : Bool := 1 ≤ v.toNat && v.toNat ≤ 6

/-- Whether a 4-byte write at this offset reaches a register that takes writes (R163, R195). -/
def isWritableRegister (offset : BitVec 12) : Bool :=
  offset ∈ [0x004#12, 0x008#12, 0x00C#12, 0x014#12, 0x018#12]

/-- A command term that stands for an event of its own row. -/
def Instr.wellFormed : Instr → Bool
  | .unknownCommand v => !namesCommand v
  | .registerWriteOther offset width _ =>
      (width ∈ [1, 2, 4, 8]) && !(width == 4 && isWritableRegister offset)
  | .damagedFrame _ f => frameByte f 0 == Config.startByte && frameDamaged f
  | .stallTimerExpiry _ index => index < Config.pageRecords
  | _ => true

end Sys2Proof
end

