-- ==== Sys2Proof/Machine/Lanes.lean ====
section
/-! DEFINITION. The Axis Lane Controller (05_axis_lanes) and HDT's issue and holding of orders (R43): frames out, tags,
HALT, retirement. What a reply does to its head is in Replies.lean. -/

namespace Sys2Proof.Machine

/-! ### Frames -/

/-- A whole frame with its check byte (R84, R194). -/
def laneFrame (code : Nat) (tag : Byte) (a1 a2 : Word) : BitVec 96 :=
  let body := frameBody code tag a1 a2
  putField body 11 1 (frameCrc body).toNat

/-- The frame of an outstanding order (R86, R194). -/
def orderFrame (o : SentOrder) : BitVec 96 := laneFrame o.kind.code o.tag o.arg1 o.arg2

/-- The frame of an outstanding HALT (R86, R194). -/
def haltFrame (h : SentHalt) : BitVec 96 := laneFrame OrderKind.halt.code h.tag 0 0

/-! ### Silent tags (R88) -/

def tagBit (t : Byte) : BitVec 256 := 1#256 <<< t.toNat
def isSilent (set : BitVec 256) (t : Byte) : Bool := set.getLsbD t.toNat
def silence (set : BitVec 256) (t : Byte) : BitVec 256 := set ||| tagBit t
def unsilence (set : BitVec 256) (t : Byte) : BitVec 256 := set &&& ~~~tagBit t

/-! ### Issue (R86, R89) -/

def Order.kind : Order → OrderKind
  | .goto _ _ => .goto
  | .descend => .descend
  | .raise => .raise
  | .home => .home

/-- The first argument of an order as issued to a head (R86). -/
def State.orderArg1 (s : State) (h : HeadId) (o : Order) : Word :=
  match o with
  | .goto x _ => wordOfInt x
  | .descend => BitVec.ofNat 32 (s.alc.descentLimit.get h.side)
  | .raise => 0
  | .home => wordOfInt (s.head h).homeX

/-- The second argument of an order as issued to a head (R86). -/
def State.orderArg2 (s : State) (h : HeadId) (o : Order) : Word :=
  match o with
  | .goto _ y => wordOfInt y
  | .home => wordOfInt (s.head h).homeY
  | _ => 0

/-- The timeout in force for an order kind; a HALT uses RAISE's (R86). -/
def LaneConfig.timeout (c : LaneConfig) (k : OrderKind) : Nat :=
  match k with
  | .goto => c.gotoTimeout
  | .descend => c.descendTimeout
  | .raise => c.raiseTimeout
  | .halt => c.raiseTimeout
  | .home => c.homeTimeout

/-- ALC issues an order on a FREE lane: it takes the next tag, which leaves the silent set, and its frame begins to be
sent (R84, R89). -/
def Lane.issue (l : Lane) (k : OrderKind) (a1 a2 : Word) (timeout : Nat) : Lane :=
  { l with
    out := .order { kind := k, tag := l.nextTag, arg1 := a1, arg2 := a2, count := 0, timeout := timeout }
    nextTag := l.nextTag + 1
    silent := unsilence l.silent l.nextTag
    txTimer := some 0 }

/-- The head state that an issued order brings; an OFFLINE or LOST head stays as it is but for HOME (R42, R43, R54). -/
def HeadState.onIssue (st : HeadState) (o : Order) : HeadState :=
  match o with
  | .home => .homing
  | .goto _ _ => if st = .offline ∨ st = .lost ∨ st = .homing then st else .moving
  | .descend => if st = .offline ∨ st = .lost ∨ st = .homing then st else .descending
  | .raise => if st = .offline ∨ st = .lost ∨ st = .homing then st else .raising

/-- HDT issues an order to a head whose lane is FREE (R43, R89). -/
def State.issueOrder (s : State) (h : HeadId) (o : Order) : State :=
  let a1 := s.orderArg1 h o
  let a2 := s.orderArg2 h o
  let t := s.alc.timeout o.kind
  (s.modLane h fun l => l.issue o.kind a1 a2 t).modHead h fun x => { x with state := x.state.onIssue o }

/-- An order requested of HDT: issued on a FREE lane, otherwise held, replacing any held before it (R43). On a FREE lane whose
transmit line has not yet been idle 2 µs after a frame it is held as well, until the line has been (R84,
notes/assumptions/58.md). -/
def State.requestOrder (s : State) (h : HeadId) (o : Order) : State :=
  match (s.lane h).out, (s.lane h).txTimer with
  | .free, none => s.issueOrder h o
  | _, _ => s.modHead h fun x => { x with heldOrder := some o }

/-! ### HALT (R84, R90) -/

/-- The kind and arguments of a lane's outstanding order that a HALT may replace: a GOTO or HOME (R90). -/
def Lane.haltable (l : Lane) : Option SentOrder :=
  match l.out with
  | .order o => if o.kind = .goto ∨ o.kind = .home then some o else none
  | _ => none

/-- A HALT is sent: the order it replaces is retired and its tag silent, the HALT takes the next tag (R90). -/
def Lane.sendHalt (l : Lane) (o : SentOrder) (timeout : Nat) (accept : Option Range) : Lane :=
  { l with
    out := .halt { tag := l.nextTag, count := 0, timeout := timeout, replaced := o.kind, accept := accept,
                   contact := o.contact }
    nextTag := l.nextTag + 1
    silent := unsilence (silence l.silent o.tag) l.nextTag
    pendingHalt := false
    txTimer := some 0 }

/-- A held HOME stays held behind a HALT; any other held order is dropped (R43, R90). -/
def keepHome (o : Option Order) : Option Order := if o = some .home then o else none

/-- The head of a sent HALT: HALTING if it was MOVING, or HOMING under the HOME that the HALT replaces; a head already
LOST or homing anew stays (R42, R44, R56). -/
def Head.onHalt (x : Head) (replaced : OrderKind) : Head :=
  let st :=
    if x.state = .moving then HeadState.halting
    else if x.state = .homing ∧ replaced = .home ∧ x.heldOrder ≠ some .home then .halting
    else x.state
  { x with state := st, heldOrder := keepHome x.heldOrder }

/-- A HALT goes out on a lane with a GOTO or HOME outstanding; the acceptance range over a GOTO is what the head holds
(R90), none where it holds no bands (notes/assumptions/61.md). -/
def State.sendHalt (s : State) (h : HeadId) : State :=
  match (s.lane h).haltable with
  | none => s
  | some o =>
    let accept := if o.kind = .goto then (s.head h).held else none
    let t := s.alc.timeout .halt
    (s.modLane h fun l => l.sendHalt o t accept).modHead h fun x => x.onHalt o.kind

/-- HDT requests a HALT: sent at once over a GOTO or HOME, or pending while the transmit line is not yet idle; none is
sent otherwise (R84, R90). -/
def State.requestHalt (s : State) (h : HeadId) : State :=
  match (s.lane h).haltable with
  | none => s
  | some _ =>
    match (s.lane h).txTimer with
    | none => s.sendHalt h
    | some _ => s.modLane h fun l => { l with pendingHalt := true }

/-- The outstanding GOTO's head is LOST by contact in travel: a HALT sent over it is marked so (R98, R108). -/
def Lane.markContact (l : Lane) : Lane :=
  match l.out with
  | .order o => { l with out := .order { o with contact := true } }
  | _ => l

/-- A HALT is outstanding or pending on a lane. -/
def Lane.halting (l : Lane) : Bool := match l.out with | .halt _ => true | _ => l.pendingHalt

/-- The outstanding order or HALT is retired by its reply and the lane is FREE; a HALT pending for it is not sent (R88, R91).
The reply shows that the last frame left the line more than 2 µs ago (notes/assumptions/11.md). -/
def State.retireLane (s : State) (h : HeadId) : State :=
  s.modLane h fun l => { l with out := .free, pendingHalt := false, txTimer := none }

/-- The outstanding order or HALT is retired by its timeout and the lane is FREE; a HALT pending for it is not sent. The transmit
line stays as busy as it is (R84, R93). -/
def State.expireLane (s : State) (h : HeadId) : State :=
  s.modLane h fun l => { l with out := .free, pendingHalt := false }

/-! ### Landing window and contact (R106) -/

def State.stopWindow (s : State) (h : HeadId) : State := s.modContact h fun c => { c with window := none }

def State.startWindow (s : State) (h : HeadId) : State :=
  s.modContact h fun c => { c with window := some (0, Config.landingWindow s.ctm.code) }

/-- RAISE is issued to a head whose lane is free; a running landing window stops (R45, R106). -/
def State.raiseHead (s : State) (h : HeadId) : State := (s.stopWindow h).requestOrder h .raise

/-- A RAISE requested of a head: issued from SETTLING and LANDED, held while DESCENDING, not needed otherwise (R45). -/
def State.requestRaise (s : State) (h : HeadId) : State :=
  match (s.head h).state with
  | .settling | .landed => s.raiseHead h
  | .descending => s.modHead h fun x => { x with heldOrder := some .raise }
  | _ => s

/-- A head's purpose is over: no assigned step, no point served, IDLE unless LOST (R44). A release calls for an
evaluation of its side (R67). -/
def State.releaseHead (s : State) (h : HeadId) : State :=
  (s.modHead h fun x =>
    { x with
      assigned := none
      serving := none
      state := if x.state = .lost then .lost else .idle }).callEval h.side

/-- CLA reserves a sweep for a head and HDT issues the GOTO; a range that would break a law of R62 is not made (R62,
R64). -/
def State.reserveAndGo (s : State) (h : HeadId) (r : Range) (x y : Int) : State :=
  if s.mayHold h r then (s.writeBands h (some r)).requestOrder h (.goto x y) else s

end Sys2Proof.Machine
end

