-- ==== Sys2Proof/Machine/Steps.lean ====
section
/-! DEFINITION. What happens to a step and its points: results handed to PLR (R23, R24), point failures and LIFTING (R18),
landings (R106), retouches (R107-R113), failed yields (R79), lost heads (R47) and the return to PENDING (R20). -/

namespace Sys2Proof.Machine

/-! ### The end of a step -/

/-- The entry as it becomes DONE with a verdict (R8, R18, R23). Its points keep the phases they have, FAILED among them, which R7 has
left with LIFTING without naming another (notes/assumptions/59.md). -/
def Entry.finished (e : Entry) (v : Verdict) (now : Tick) : Entry :=
  { e with phase := .done, verdict := some v, endTime := now, stall := none, group := none, markWrite := none }

/-- SEQ hands a DONE entry to PLR, which requests its two writes: the items, then the status (R24). -/
def State.handResult (s : State) (e : Entry) : State :=
  (s.requestWrite (.resultItems e.pos) (e.addr + 0x62) 30 (resultItems e) (some e.pos)).requestWrite
    (.resultStatus e.pos) (e.addr + 0x60) 2 (BitVec.ofNat 256 (resultStatus e)) (some e.pos)

/-- A step becomes DONE with a verdict and its result is handed (R23, R24). -/
def State.finishStep (s : State) (p : Pos) (v : Verdict) : State :=
  match s.entry? p with
  | none => s
  | some e =>
    let e' := e.finished v s.tmb.ticks
    (s.modEntry p fun _ => e').handResult e'

/-! ### The engine lets go (R126, R139) -/

/-- The engine FREE: no served step, timers stopped, source off, matrix open, record empty (R126, R139). -/
def Engine.released (m : Engine) : Engine :=
  { m with served := none, phase := .free, attempts := [], settle := none, matrix := none, source := none }

/-- The engine abandons a step if it serves it (R126). -/
def State.abandon (s : State) (p : Pos) : State :=
  if s.men.served = some p then s.modMen Engine.released else s

/-! ### LIFTING and point failures (R18) -/

/-- Each head still assigned to the step is brought to rest by its phase: landed and settling heads are raised, a
descending head's RAISE is held, a moving or raising one completes (R18, R45). -/
def State.liftHeads (s : State) (p : Pos) : State :=
  allHeads.foldl (fun s h => if (s.head h).assigned = some p then s.requestRaise h else s) s

/-- The step enters LIFTING (R18). -/
def State.enterLifting (s : State) (p : Pos) : State :=
  ((s.abandon p).modEntry p fun e => { e with phase := .lifting }).liftHeads p

/-- A point fails with a verdict. The first verdict recorded for the step is kept, and its step enters LIFTING (R18). -/
def State.pointFail (s : State) (p : Pos) (n : PointName) (v : Verdict) : State :=
  match s.entry? p with
  | none => s
  | some e =>
    let s := s.modPoint p n fun x => { x with phase := .failed }
    if e.phase = .granted then
      (s.modEntry p fun e => { e with verdict := e.verdict <|> some v }).enterLifting p
    else s

/-! ### Landing (R105, R106) -/

/-- A head and the point it serves become LANDED, the window stops, and the landing time is copied (R7, R106). -/
def State.landHead (s : State) (h : HeadId) : State :=
  let x := s.head h
  let s := (s.stopWindow h).modHead h fun x => { x with state := .landed }
  match x.assigned, x.serving with
  | some p, some (.point n) =>
    s.modEntry p fun e => { e.modPoint n fun q => { q with phase := .landed } with landingTime := s.tmb.ticks }
  | _, _ => s

/-! ### Retouch (R107, R110, R111, R113) -/

/-- The verdict of a spent budget (R113). -/
def RetouchCause.verdict : RetouchCause → Verdict
  | .noContact => .noContact
  | .lostContact => .contactLost

/-- A retouch of a point begins (R110). -/
def State.beginRetouch (s : State) (p : Pos) (n : PointName) (cause : RetouchCause) : State :=
  s.modEntry p fun e =>
    { e.modPoint n fun q => { q with used := q.used + 1, cause := some cause, phase := .retouching } with
      flags := { e.flags with retouched := true } }

/-- A miss, a bounce or a loss of contact on a point: a retouch begins if the step's retries allow one, otherwise the
point fails with the verdict of the cause. A LIFTING step takes neither (R107, R109). -/
def State.missPoint (s : State) (p : Pos) (n : PointName) (cause : RetouchCause) : State :=
  match s.entry? p with
  | none => s
  | some e =>
    if e.phase ≠ .granted then s
    else if (e.point n).used < reqRetries e.request then s.beginRetouch p n cause
    else s.pointFail p n cause.verdict

/-- The promised set of a yield group has a band of a side (R76). -/
def YieldGroup.promises (g : YieldGroup) (d : Side) (b : Nat) : Bool :=
  g.mains.any (fun m => m.head.side == d && m.sweep.has b) || g.yields.any (fun y => y.head.side == d && y.sweep.has b)

/-- A band of a side is promised to a yield group (R76). -/
def State.promised (s : State) (d : Side) (b : Nat) : Bool :=
  s.window.any fun e => match e.group with | some g => g.promises d b | none => false

/-- Every band of a range is free and promised to no yield group, or is held by the head itself (R81). -/
def State.clearFor (s : State) (h : HeadId) (r : Range) : Bool :=
  r.bands.all fun b =>
    match s.holder h.side b with
    | none => !s.promised h.side b
    | some g => g == h

/-- The target of a point's retouch attempt: its original target plus the attempt's offset (R39). -/
def Entry.retouchAim (e : Entry) (n : PointName) : Option (Int × Int) :=
  (e.point n).target.map fun t =>
    let o := retouchOffset (e.point n).used (reqDelta e.request)
    (t.1 + o.1, t.2 + o.2)

/-- The retouch target passes reach and keep-out (R40). -/
def State.touchable (s : State) (d : Side) (t : Int × Int) : Bool :=
  inReach (s.fru.area.get d) t && !inKeepOut (s.fru.keepOut.get d) t

/-- The attempt due for a raised head is tried; a consumed attempt begins the next while the retries allow one, and a spent
budget releases the head and fails the point. `fuel` bounds the attempts of one event, at most three (R111, R113). -/
def State.tryRetouch (fuel : Nat) (s : State) (h : HeadId) (p : Pos) (n : PointName) : State :=
  match fuel with
  | 0 => s
  | fuel + 1 =>
    match s.entry? p with
    | none => s
    | some e =>
      let d := h.side
      let aim := (e.retouchAim n).filter fun t =>
        s.touchable d t && s.clearFor h (s.sweep (s.head h).x t.1) && s.mayHold h (s.sweep (s.head h).x t.1)
      match aim with
      | some t =>
        (s.modPoint p n fun q => { q with retouchTarget := some t }).reserveAndGo h (s.sweep (s.head h).x t.1) t.1 t.2
      | none =>
        if (e.point n).used < reqRetries e.request then
          State.tryRetouch fuel (s.modPoint p n fun q => { q with used := q.used + 1 }) h p n
        else
          (s.releaseHead h).pointFail p n ((e.point n).cause.getD .noContact).verdict

/-! ### The return to PENDING and to WAITING (R20, R79, R83) -/

/-- Every head assigned to a step loses its assignment (R20). -/
def State.unassign (s : State) (p : Pos) : State :=
  { s with heads := s.heads.map fun x => if x.assigned = some p then { x with assigned := none, serving := none } else x }

/-- A step returns to PENDING: its entry keeps its position, record and request, everything else is as created (R20). -/
def State.returnStep (s : State) (p : Pos) : State :=
  ((s.abandon p).unassign p).modEntry p fun e => Entry.fresh e.pos e.addr e.request

/-- A yield head of a failing group: HELD is cancelled, OUT is detached, REACHED has been released (R79). Where the step returns
to PENDING, outside RUNNING, the head's point served ends with its assigned step (R20). -/
def State.detachYield (running : Bool) (s : State) (y : Yield) : State :=
  match y.state with
  | .held => s.modHead y.head fun x => { x with assigned := none, serving := none }
  | .out => s.modHead y.head fun x => { x with assigned := none, serving := if running then x.serving else none }
  | .reached => s

/-- A main head of a failing group becomes unassigned and stays IDLE (R79). -/
def State.detachMain (s : State) (m : MainPart) : State :=
  s.modHead m.head fun x => { x with assigned := none, serving := none }

/-- The sides on which a yield group has a head. -/
def YieldGroup.sides (g : YieldGroup) : List Side := g.mains.map (·.head.side) ++ g.yields.map (·.head.side)

/-- A yield group is dissolved, which calls for an evaluation of each side on which it has a head (R67). -/
def State.groupDissolved (s : State) (g : YieldGroup) : State := g.sides.foldl State.callEval s

/-- The entry of a step whose yield failed: back to WAITING with its timer running on, or to PENDING outside RUNNING
(R11, R66, R79, R83). -/
def Entry.afterYieldFailure (e : Entry) (running : Bool) : Entry :=
  if running then
    { e with
      phase := .waiting
      group := none
      a := { e.a with head := none, phase := .idle }
      b := { e.b with head := none, phase := .idle }
      stall := e.stall.map fun t => { t with paused := false } }
  else Entry.fresh e.pos e.addr e.request

/-- A yield of a step's group has failed on a head, whose own state is already set (R79). Outside RUNNING the step returns to
PENDING, and no head of it stays assigned, not even one that is LOST with its HALT outstanding (R20, R83). -/
def State.failYield (s : State) (p : Pos) (h : HeadId) : State :=
  match s.entry? p with
  | none => s
  | some e =>
    match e.group with
    | none => s
    | some g =>
      let running := decide (s.run.state = .running)
      let s := (g.yields.filter fun y => y.head ≠ h).foldl (State.detachYield running) s
      let s := (g.mains.foldl State.detachMain s).groupDissolved g
      let s := s.modEntry p fun e => e.afterYieldFailure running
      let s := if running then s else s.unassign p
      (e.points.map e.sideOf).foldl State.callEval s

/-! ### Lost heads (R47) and the end of a PARK move (R61) -/

/-- The move of a PARK's head has ended; a head not brought home is skipped (R61). -/
def State.parkMoveEnded (s : State) (h : HeadId) (skipped : Bool) : State :=
  { s with park := s.park.map fun k =>
      if k.current = some h then
        { k with settled := h :: k.settled, skipped := k.skipped || skipped, current := none }
      else k }

/-- A head becomes LOST: it keeps its bands, its work fails, and its assignment ends unless a HALT is still outstanding on
it (R47). -/
def State.loseHead (s : State) (h : HeadId) : State :=
  let x := s.head h
  let keep := (s.lane h).halting
  let s := (s.modHead h fun x =>
    { x with
      state := .lost
      heldOrder := keepHome x.heldOrder
      assigned := if keep then x.assigned else none
      serving := if keep then x.serving else none }).callEval h.side
  match x.assigned, x.serving with
  | some p, some (.point n) => s.pointFail p n .driveFailure
  | some p, some .yielding => s.failYield p h
  | some _, some .park => s.parkMoveEnded h true
  | _, _ => s

end Sys2Proof.Machine
end

