-- ==== Sys2Proof/Machine/Arbiter.lean ====
section
/-! DEFINITION. The Clearance Arbiter (04_clearance_bands_and_the_grant_arbiter): standing, candidate assignments,
feasibility, yield cascades, the choice, the grant, and the yields of a group. -/

namespace Sys2Proof.Machine

/-! ### Standing and eligibility (R49) -/

/-- A head is eligible to be chosen for a point (R49). -/
def State.eligible (s : State) (h : HeadId) : Bool :=
  let x := s.head h
  x.state == .idle && x.assigned.isNone && x.enabled && !x.worn && s.sides.get h.side

/-- A head may be yielded (R49). -/
def State.yieldable (s : State) (h : HeadId) : Bool :=
  (s.head h).state == .idle && (s.head h).assigned.isNone

/-- A point's standing at an evaluation (R49). -/
inductive Standing where
  | unusable (v : Verdict)
  | busy
  | candidates (hs : List HeadId)
  deriving DecidableEq, Repr

/-- The standing of a point that names a head on an OPEN side (R49). -/
def State.namedStanding (s : State) (h : HeadId) : Standing :=
  let x := s.head h
  if x.worn then .unusable .headWorn
  else if !x.enabled || x.state == .lost || x.state == .offline || x.state == .homing then .unusable .headUnavailable
  else if s.eligible h then .candidates [h]
  else .busy

/-- The standing of a point that names ANY on an OPEN side (R49). A HOMING head counts as busy
(notes/assumptions/15.md). -/
def State.anyStanding (s : State) (d : Side) : Standing :=
  match d.heads.filter s.eligible with
  | [] =>
    if d.heads.any fun h =>
        let x := s.head h
        x.enabled && !x.worn && x.state != .lost && x.state != .offline
    then .busy
    else .unusable .headUnavailable
  | hs => .candidates hs

/-- The standing of a point of a waiting step (R49). -/
def State.standing (s : State) (e : Entry) (n : PointName) : Standing :=
  let d := e.sideOf n
  if !s.sides.get d then .unusable .headUnavailable
  else match selectorHead (reqSelector e.request n) with
    | .named h => s.namedStanding h
    | .any => s.anyStanding d
    | .invalid => .unusable .headUnavailable

/-! ### Cascades (R72, R73) -/

/-- A band may be taken by a yield of head g that pushes heads beyond it: free and unpromised, its own, or held by a head
farther out (R72, R73). -/
def State.yieldBandOk (s : State) (g : HeadId) (rightward : Bool) (b : Nat) : Bool :=
  match s.holder g.side b with
  | none => !s.promised g.side b
  | some q => q == g || (if rightward then decide (g.index < q.index) else decide (q.index < g.index))

/-- The leftward cascade from boundary `bound` over the `n` heads of lower index; none when it cannot be made (R72). -/
def State.leftCascade (s : State) (d : Side) (bound : Nat) : Nat → Option (List Yield)
  | 0 => some []
  | n + 1 =>
    let g := d.head n
    let x := s.head g
    let m := s.fru.margin
    match x.held with
    | none => some []
    | some r =>
      if r.hi < bound then some []
      else if s.yieldable g && decide (2 * m + 1 ≤ bound) then
        let c := bound - m - 1
        let sweep : Range := ⟨c - m, min (s.band x.x + m) Config.maxBand⟩
        if sweep.bands.all (s.yieldBandOk g false) then
          (s.leftCascade d (c - m) n).map fun ys =>
            ⟨g, false, c, ((c * s.fru.width + s.fru.width / 2 : Nat), x.y), sweep, .held⟩ :: ys
        else none
      else none

/-- The rightward cascade from boundary `bound` over the `n` heads of highest index (R73). -/
def State.rightCascade (s : State) (d : Side) (bound : Nat) : Nat → Option (List Yield)
  | 0 => some []
  | n + 1 =>
    let g := d.head (3 - n)
    let x := s.head g
    let m := s.fru.margin
    match x.held with
    | none => some []
    | some r =>
      if bound < r.lo then some []
      else if s.yieldable g && decide (bound + 2 * m + 1 ≤ Config.maxBand) then
        let c := bound + m + 1
        let sweep : Range := ⟨s.band x.x - m, c + m⟩
        if sweep.bands.all (s.yieldBandOk g true) then
          (s.rightCascade d (c + m) n).map fun ys =>
            ⟨g, true, c, ((c * s.fru.width + s.fru.width / 2 : Nat), x.y), sweep, .held⟩ :: ys
        else none
      else none

/-- A yield's footprint (R72). -/
def State.yieldFootprint (s : State) (y : Yield) : Range := footprintAt s.fru.margin y.band

/-! ### Shadows (R65) -/

/-- The footprints a step casts on a side (R65). -/
def State.shadow (s : State) (e : Entry) (d : Side) : List Range :=
  (e.points.filter fun n => e.sideOf n = d).filterMap fun n => (e.point n).target.map fun t => s.footprint t.1

/-- The waiting steps older than a step (R65, R71). -/
def State.olderWaiting (s : State) (p : Pos) : List Entry :=
  (s.window.takeWhile fun e => e.pos ≠ p).filter fun e => e.phase = .waiting

/-- A range lies clear of the shadows that older waiting steps cast on a side (R70 condition 5). -/
def State.clearOfShadows (s : State) (p : Pos) (d : Side) (r : Range) : Bool :=
  (s.olderWaiting p).all fun e => (s.shadow e d).all fun f => !f.meets r

/-! ### Feasibility of one side (R70) -/

/-- Ranges share no band with each other. -/
def pairwiseApart : List Range → Bool
  | [] => true
  | r :: rs => rs.all (fun q => !r.meets q) && pairwiseApart rs

/-- The lower-index and higher-index main parts of a side: the same for a single one. -/
def mainEnds (ms : List MainPart) : Option (MainPart × MainPart) :=
  match ms with
  | [a] => some (a, a)
  | [a, b] => if a.head.index < b.head.index then some (a, b) else some (b, a)
  | _ => none

/-- R70 condition 1 for one band of a main sweep. -/
def State.mainBandOk (s : State) (m : MainPart) (ys : List Yield) (b : Nat) : Bool :=
  match s.holder m.head.side b with
  | none => !s.promised m.head.side b
  | some q => q == m.head || ys.any fun y => y.head == q

/-- R70 condition 3: no head between a pair holds a band inside either main sweep. -/
def State.noneBetween (s : State) (d : Side) (lo hi : MainPart) : Bool :=
  d.heads.all fun g =>
    !(decide (lo.head.index < g.index) && decide (g.index < hi.head.index)) ||
      match (s.head g).held with
      | some r => !r.meets lo.sweep && !r.meets hi.sweep
      | none => true

/-- The yields an assignment's part on one side needs, none when that part is not feasible (R70, R72, R73). -/
def State.planSide (s : State) (p : Pos) (d : Side) (ms : List MainPart) : Option (List Yield) :=
  match mainEnds ms with
  | none => none
  | some (lo, hi) =>
    match s.leftCascade d lo.sweep.lo lo.head.index, s.rightCascade d hi.sweep.hi (3 - hi.head.index) with
    | some ls, some rs =>
      let ys := ls ++ rs
      let sweeps := ms.map (·.sweep)
      if ms.all (fun m => m.sweep.bands.all (s.mainBandOk m ys))
          && pairwiseApart (sweeps ++ ys.map s.yieldFootprint)
          && s.noneBetween d lo hi
          && (sweeps ++ ys.map (·.sweep)).all (s.clearOfShadows p d)
      then some ys
      else none
    | _, _ => none

/-! ### Assignments (R69) and the choice (R74) -/

/-- A planned assignment: its main parts, its yields, and the bands it counts (R74). -/
structure Plan where
  mains : List MainPart
  yields : List Yield
  count : Nat
  deriving DecidableEq, Repr

/-- The main part of a head for a point of a step (R69). -/
def State.mainPart (s : State) (e : Entry) (n : PointName) (h : HeadId) : Option MainPart :=
  (e.point n).target.map fun t => ⟨n, h, t, s.sweep (s.head h).x t.1⟩

/-- The heads of a same-side pair differ, the lower index on the smaller X (R69). -/
def pairOrdered (a b : MainPart) : Bool :=
  a.head.side != b.head.side ||
    (if a.target.1 < b.target.1 then decide (a.head.index < b.head.index) else decide (b.head.index < a.head.index))

/-- The candidate assignments of a step in the order of (head for A, head for B) (R69, R74). -/
def State.assignments (s : State) (e : Entry) (as bs : List HeadId) : List (List MainPart) :=
  if e.points = [.a, .b] then
    (as.flatMap fun ha => bs.filterMap fun hb =>
      match s.mainPart e .a ha, s.mainPart e .b hb with
      | some ma, some mb => if pairOrdered ma mb then some [ma, mb] else none
      | _, _ => none)
  else as.filterMap fun ha => (s.mainPart e .a ha).map fun m => [m]

/-- The plan of an assignment, none when it is not feasible on every side it uses (R70, R74). -/
def State.planAssignment (s : State) (p : Pos) (ms : List MainPart) : Option Plan :=
  let part (d : Side) : Option (List Yield) :=
    match ms.filter fun m => m.head.side = d with
    | [] => some []
    | xs => s.planSide p d xs
  match part .top, part .bottom with
  | some ts, some bs =>
    let ys := ts ++ bs
    some ⟨ms, ys, (ms.map (·.sweep.width)).sum + (ys.map fun y => (s.yieldFootprint y).width).sum⟩
  | _, _ => none

/-- The plan with the fewest bands; among equals the first, which has the lowest pair of heads (R74). -/
def leastPlan : List Plan → Option Plan
  | [] => none
  | p :: ps =>
    match leastPlan ps with
    | none => some p
    | some q => if p.count ≤ q.count then some p else some q

/-! ### Yields of a group (R77, R78) -/

/-- Every band of a yield's sweep is free or held by the yielded head (R77). -/
def State.yieldReady (s : State) (y : Yield) : Bool :=
  y.sweep.bands.all fun b => match s.holder y.head.side b with | none => true | some g => g == y.head

/-- A yield's new state within its group. -/
def setYield (h : HeadId) (st : YieldState) (ys : List Yield) : List Yield :=
  ys.map fun y => if y.head = h then { y with state := st } else y

def State.markYield (s : State) (p : Pos) (h : HeadId) (st : YieldState) : State :=
  s.modEntry p fun e => { e with group := e.group.map fun g => { g with yields := setYield h st g.yields } }

/-- Every HELD yield of a group that can go is issued (R77). -/
def State.issueYields (s : State) (p : Pos) (ys : List Yield) : State :=
  ys.foldl (fun s y =>
    if y.state = .held && s.yieldReady y then
      (s.markYield p y.head .out).reserveAndGo y.head y.sweep y.target.1 y.target.2
    else s) s

/-- The step's own GOTOs go out: each main head takes its sweep and becomes MOVING with its point; the stall timer and the
group are discarded (R75, R78). R78 holds that the sweeps can always be written; where they cannot, no GOTO goes out
(notes/assumptions/60.md). -/
def State.launch (s : State) (p : Pos) (ms : List MainPart) : State :=
  let s := s.modEntry p fun e => { e with phase := .granted, stall := none, group := none }
  ms.foldl (fun s m =>
    (s.modPoint p m.point fun q => { q with phase := .moving }).reserveAndGo m.head m.sweep m.target.1 m.target.2) s

/-- A yield of a step's group has reached its target and its head is released: the yields it freed go out, and when all
have reached the step's own moves follow, which dissolves the group (R67, R78). -/
def State.yieldReached (s : State) (p : Pos) (h : HeadId) : State :=
  let s := s.markYield p h .reached
  match s.entry? p with
  | none => s
  | some e =>
    match e.group with
    | none => s
    | some g =>
      if g.yields.all (fun y => y.state = .reached) then (s.launch p g.mains).groupDissolved g else s.issueYields p g.yields

/-! ### The grant (R75) -/

/-- A main head is assigned to its point (R75). -/
def State.assignMain (s : State) (p : Pos) (m : MainPart) : State :=
  (s.modHead m.head fun x => { x with assigned := some p, serving := some (.point m.point) }).modPoint p m.point
    fun q => { q with head := some m.head }

/-- A yielded head is assigned to the step (R75). -/
def State.assignYield (s : State) (p : Pos) (y : Yield) : State :=
  s.modHead y.head fun x => { x with assigned := some p, serving := some .yielding }

/-- CLA grants a plan to a waiting step (R75, R76). -/
def State.grant (s : State) (p : Pos) (plan : Plan) : State :=
  let s := plan.mains.foldl (fun s m => s.assignMain p m) s
  match plan.yields with
  | [] => s.launch p plan.mains
  | ys =>
    let s := ys.foldl (fun s y => s.assignYield p y) s
    let s := s.modEntry p fun e =>
      { e with
        phase := .yielding
        stall := e.stall.map fun t => { t with paused := true }
        group := some ⟨plan.mains, ys⟩ }
    s.issueYields p ys

/-! ### Evaluation (R67, R68) -/

/-- A waiting step is ended with a verdict and leaves the wait list, which calls for evaluations where it cast a shadow
(R67, R68). -/
def State.endWaiting (s : State) (e : Entry) (v : Verdict) : State :=
  (e.points.map e.sideOf).foldl State.callEval (s.finishStep e.pos v)

/-- The candidates of a point of a step, all heads for a point the kind does not use. -/
def Standing.heads : Standing → List HeadId
  | .candidates hs => hs
  | _ => []

/-- The best feasible plan of a waiting step whose points all have candidates (R69, R74). -/
def State.bestPlan (s : State) (e : Entry) : Option Plan :=
  leastPlan ((s.assignments e (s.standing e .a).heads (s.standing e .b).heads).filterMap (s.planAssignment e.pos))

/-- CLA examines one waiting step in an evaluation of a side (R68). A two-sided step's grant calls for the other side's
evaluation (R67). -/
def State.examine (s : State) (d : Side) (p : Pos) : State :=
  match s.entry? p with
  | none => s
  | some e =>
    if e.phase ≠ .waiting then s
    else
      let sts := e.points.map (s.standing e)
      match sts.filterMap fun st => match st with | .unusable v => some v | _ => none with
      | v :: _ => s.endWaiting e v
      | [] =>
        if sts.any fun st => st = .busy then s
        else match s.bestPlan e with
          | none => s
          | some plan =>
            let s := s.grant p plan
            if e.points.any fun n => e.sideOf n ≠ d then s.callEval d.other else s

/-- The waiting steps with a point on a side, oldest first (R67). -/
def State.waitersOn (s : State) (d : Side) : List Pos :=
  (s.window.filter fun e => e.phase = .waiting && e.points.any fun n => e.sideOf n = d).map (·.pos)

/-- One grant evaluation of a side (R67). -/
def State.evaluate (s : State) (d : Side) : State := (s.waitersOn d).foldl (fun s p => s.examine d p) s

end Sys2Proof.Machine
end

