-- ==== Sys2Proof/Machine/Replies.lean ====
section
/-! DEFINITION. Replies from the drives: receipt (R85), matching (R91, R92), the checks of R94-R98, and what each outcome
does to its head and its step (R43-R47, R57, R61, R79, R80, R105, R107, R112). -/

namespace Sys2Proof.Machine

/-! ### Wear and touches (R50-R52) -/

/-- The wear limit is reached (R51, R52). -/
def Head.wearReached (x : Head) : Bool := x.wearLimit != 0 && decide (x.wearLimit ≤ x.touches)

/-- HDT judges a head's worn flag again; a rise submits HEAD_WORN naming `step` and calls for an evaluation (R51, R67). -/
def State.judgeWorn (s : State) (h : HeadId) (step : Option Pos) : State :=
  let x := s.head h
  let s := s.modHead h fun x => { x with worn := x.wearReached }
  if x.wearReached && !x.worn then
    (s.submit ⟨.headWorn, some h, some h.side, stepSeq step, stepIdx step, 0, BitVec.ofNat 32 x.touches⟩).callEval h.side
  else s

/-- A TOUCHED raises the touch count, up to its saturation value (R50). -/
def State.countTouch (s : State) (h : HeadId) : State :=
  (s.modHead h fun x => { x with touches := min (x.touches + 1) Config.maxTouches }).judgeWorn h (s.head h).assigned

/-- A DESCEND for a point's head after the wear check: a worn head is released and its point fails (R52). -/
def State.descendHead (s : State) (h : HeadId) (p : Pos) (n : PointName) : State :=
  if (s.head h).wearReached then (s.releaseHead h).pointFail p n .headWorn
  else (s.modPoint p n fun q => { q with phase := .descending }).requestOrder h .descend

/-! ### Head states and the orders they answer (R42) -/

/-- The head is in the state in which a reply to this order kind acts on it (R42). A HOMING head behind a held HOME waits
for an older order (R56). -/
def Head.answers (x : Head) (k : OrderKind) : Bool :=
  match k with
  | .goto => x.state == .moving
  | .descend => x.state == .descending
  | .raise => x.state == .raising
  | .halt => x.state == .halting
  | .home => x.state == .homing && x.heldOrder != some .home

/-- A head's assignment ends without any other change (R47). -/
def State.dropAssignment (s : State) (h : HeadId) : State :=
  s.modHead h fun x => { x with assigned := none, serving := none }

/-- A LOST head keeps no assignment once no HALT is outstanding or pending on its lane (R47). -/
def State.settleLost (s : State) (h : HeadId) : State :=
  if (s.head h).state = .lost ∧ (s.lane h).halting = false then s.dropAssignment h else s

/-- HDT acts on the order it holds once the lane is FREE; the order to be issued stays held until the transmit line has been
idle 2 µs (R43, R52, R84, notes/assumptions/58.md). -/
def State.issueHeld (s : State) (h : HeadId) : State :=
  match (s.head h).heldOrder, (s.lane h).out with
  | some o, .free =>
    let s' := s.modHead h fun x => { x with heldOrder := none }
    if (s.head h).state = .lost ∧ o ≠ .home then s'
    else if (s.lane h).txTimer.isSome then s
    else match o, (s.head h).assigned, (s.head h).serving with
      | .descend, some p, some (.point n) => s'.descendHead h p n
      | _, _, _ => s'.issueOrder h o
  | _, _ => s

/-- The entries of a head become its footprint at an X, which frees bands of its side (R80, R67). -/
def State.shrinkTo (s : State) (h : HeadId) (x : Int) : State := (s.writeBands h (some (s.footprint x))).callEval h.side

/-- The step a head serves with a point, when it is still running toward its verdict. -/
def State.runningPoint (s : State) (h : HeadId) : Option (Entry × PointName) :=
  match (s.head h).assigned, (s.head h).serving with
  | some p, some (.point n) => (s.entry? p).bind fun e => if e.phase = .granted then some (e, n) else none
  | _, _ => none

/-! ### GOTO (R44, R80, R94, R96, R112) -/

/-- A MOVING head has reached its target within tolerance (R44). -/
def State.arrive (s : State) (h : HeadId) (x y : Int) : State :=
  let s := (s.modHead h fun q => { q with x := x, y := y }).shrinkTo h x
  match s.runningPoint h with
  | some (e, n) => s.descendHead h e.pos n
  | none =>
    match (s.head h).assigned, (s.head h).serving with
    | some p, some .yielding => (s.releaseHead h).yieldReached p h
    | some _, some .park => (s.releaseHead h).parkMoveEnded h false
    | _, _ => s.releaseHead h

/-- A GOTO was refused: the head is IDLE where it was (R44, R96). -/
def State.moveRefused (s : State) (h : HeadId) : State :=
  let x := s.head h
  let s := (s.shrinkTo h x.x).releaseHead h
  match x.assigned, x.serving with
  | some p, some (.point n) => s.pointFail p n .driveFailure
  | some p, some .yielding => s.failYield p h
  | some _, some .park => s.parkMoveEnded h true
  | _, _ => s

/-- REACHED, judged against the target (R94). -/
def State.reachedReply (s : State) (h : HeadId) (o : SentOrder) (a1 a2 : Word) : State :=
  let x := a1.toInt
  let y := a2.toInt
  let x0 := o.arg1.toInt
  let y0 := o.arg2.toInt
  if withinTolerance s.alc.tolerance x y x0 y0 then
    if (s.head h).answers .goto then s.arrive h x0 y0 else s
  else
    let s' := s.submitHead .positionError h 1 (BitVec.ofNat 32 (largerDeviation x y x0 y0))
    if (s.head h).answers .goto then s'.loseHead h else s'

/-! ### DESCEND (R45, R95, R105, R107) -/

/-- The part of TOUCHED after the count: a held RAISE or a LIFTING step raises the head, a made level lands it, an open
level starts the landing window (R105). -/
def State.touchDown (s : State) (h : HeadId) : State :=
  let x := s.head h
  match s.runningPoint h, x.heldOrder with
  | some (e, n), none =>
    if (s.contact h).filtered then s.landHead h
    else ((s.startWindow h).modHead h fun x => { x with state := .settling }).modPoint e.pos n
      fun q => { q with phase := .settling }
  | _, _ => (s.modHead h fun x => { x with heldOrder := keepHome x.heldOrder }).raiseHead h

/-- TOUCHED: its travel is checked, then it counts and the descent goes on (R95, R50, R105). -/
def State.touchedReply (s : State) (h : HeadId) (o : SentOrder) (travel : Word) : State :=
  if o.arg1.toNat < travel.toNat then
    let s' := s.submitHead .driveFault h 3 (driveDetail .descend travel)
    if (s.head h).answers .descend then s'.loseHead h else s'
  else
    let s' := s.countTouch h
    if (s.head h).answers .descend then s'.touchDown h else s'

/-- BOTTOMED: the head is raised, and a running point has missed (R45, R107). -/
def State.bottomedReply (s : State) (h : HeadId) : State :=
  if (s.head h).answers .descend then
    let s' := (s.modHead h fun x => { x with heldOrder := keepHome x.heldOrder }).raiseHead h
    match s.runningPoint h with
    | some (e, n) => s'.missPoint e.pos n .noContact
    | none => s'
  else s

/-- A DESCEND was refused: the head is released where it stands and its point fails (R45, R96). -/
def State.descendRefused (s : State) (h : HeadId) : State :=
  let x := s.head h
  let s := s.releaseHead h
  match x.assigned, x.serving with
  | some p, some (.point n) => s.pointFail p n .driveFailure
  | _, _ => s

/-! ### RAISE (R45, R96, R111) -/

/-- RAISED: a retouching point's next attempt is tried, otherwise the head is released (R45, R111). -/
def State.raisedReply (s : State) (h : HeadId) : State :=
  if (s.head h).answers .raise then
    match s.runningPoint h with
    | some (e, n) =>
      if (e.point n).phase = .retouching then State.tryRetouch 4 s h e.pos n else s.releaseHead h
    | none => s.releaseHead h
  else s

/-- A RAISE was refused: the head is released at rest; a point being retouched fails (R96). -/
def State.raiseRefused (s : State) (h : HeadId) : State :=
  match s.runningPoint h with
  | some (e, n) =>
    if (e.point n).phase = .retouching then (s.releaseHead h).pointFail e.pos n .driveFailure else s.releaseHead h
  | none => s.releaseHead h

/-! ### HOME (R57) -/

/-- HOMED: the tolerance and band test of a HOMING head (R57). The record of a failed test stands before the result of a HOME_SIDE that it
ends (notes/assumptions/57.md). -/
def State.homedReply (s : State) (h : HeadId) (a1 a2 : Word) : State :=
  let x := a1.toInt
  let y := a2.toInt
  let q := s.head h
  if q.answers .home then
    if withinTolerance s.alc.tolerance x y q.homeX q.homeY && s.mayHold h (s.footprint x) then
      ((s.modHead h fun q => { q with x := x, y := y }).shrinkTo h x).releaseHead h
    else
      (s.submitHead .positionError h 3 (BitVec.ofNat 32 (largerDeviation x y q.homeX q.homeY))).loseHead h
  else s

/-! ### HALT (R46, R80, R98) -/

/-- A HALT over a HOME has stopped the head: OFFLINE, holding nothing (R46). -/
def State.homingHalted (s : State) (h : HeadId) : State :=
  (s.writeBands h none).modHead h fun x => { x with state := .offline, assigned := none, serving := none }

/-- HALTED inside the acceptance range: IDLE at the reported position, unless its footprint is blocked. A band beyond the held range is
entered when no head holds it, also one that is promised to a yield group (R80, notes/assumptions/60.md). -/
def State.haltAccepted (s : State) (h : HeadId) (x y : Int) : State :=
  if s.mayHold h (s.footprint x) then
    ((s.modHead h fun q => { q with x := x, y := y }).shrinkTo h x).releaseHead h
  else (s.submitHead .positionError h 4 (wordOfInt x)).loseHead h

/-- HALTED, judged against the acceptance range of its HALT (R98). A head already LOST stays so (R46), and a HALT over the
GOTO of a head that contact in travel made LOST has no record, whatever has become of the head since (R98). A HALT sent over a GOTO
while its head held no bands has no acceptance range: any position is taken, no POSITION_ERROR is made, and the head, OFFLINE or HOMING
since its bands were emptied, stays as it is (notes/assumptions/61.md). -/
def State.haltedReply (s : State) (h : HeadId) (t : SentHalt) (a1 a2 : Word) : State :=
  let x := a1.toInt
  let q := s.head h
  match t.replaced, t.accept with
  | .goto, some r =>
    if r.has (s.band x) then (if q.answers .halt then s.haltAccepted h x a2.toInt else s)
    else
      let s' := if q.state = .lost ∨ t.contact = true then s else s.submitHead .positionError h 2 a1
      if q.answers .halt then s'.loseHead h else s'
  | _, _ => if q.answers .halt then s.homingHalted h else s

/-! ### REFUSED and FAULT (R96, R97) -/

/-- A head whose HALT ended in no position: LOST, or LOST still (R46, R96, R97). -/
def State.haltLost (s : State) (h : HeadId) : State := if (s.head h).answers .halt then s.loseHead h else s

/-- REFUSED: DRIVE_FAULT, then by the order refused (R96). -/
def State.refusedReply (s : State) (h : HeadId) (k : OrderKind) (code : Word) : State :=
  let s' := s.submitHead .driveFault h 1 (driveDetail k code)
  match k with
  | .halt => s'.haltLost h
  | _ =>
    if (s.head h).answers k then
      match k with
      | .goto => s'.moveRefused h
      | .descend => s'.descendRefused h
      | .raise => s'.raiseRefused h
      | .home => s'.loseHead h
      | .halt => s'
    else s'

/-- FAULT: DRIVE_FAULT, then the head is LOST (R97). -/
def State.faultReply (s : State) (h : HeadId) (k : OrderKind) (code : Word) : State :=
  let s' := s.submitHead .driveFault h 2 (driveDetail k code)
  match k with
  | .halt => s'.haltLost h
  | _ => if (s.head h).answers k then s'.loseHead h else s'

/-! ### Taking a reply (R91, R92) -/

/-- A reply that is not taken: recorded as late unless its tag is silent (R92). -/
def State.lateReply (s : State) (l : HeadId) (kind : ReplyKind) (tag : Byte) (unfit : Bool) : State :=
  if isSilent (s.lane l).silent tag then s
  else s.submitHead .lateReply l (if unfit then 2 else 1) (codeTagDetail kind.code tag)

/-- The outcome of a taken reply on an order other than HALT (R44, R45, R57, R94-R97). -/
def State.orderReply (s : State) (h : HeadId) (o : SentOrder) (kind : ReplyKind) (a1 a2 : Word) : State :=
  match kind with
  | .reached => s.reachedReply h o a1 a2
  | .touched => s.touchedReply h o a1
  | .bottomed => s.bottomedReply h
  | .raised => s.raisedReply h
  | .homed => s.homedReply h a1 a2
  | .refused => s.refusedReply h o.kind a1
  | .fault => s.faultReply h o.kind a1
  | .halted => s

/-- The outcome of a taken reply on a HALT (R46, R96-R98). -/
def State.haltReply (s : State) (h : HeadId) (t : SentHalt) (kind : ReplyKind) (a1 a2 : Word) : State :=
  match kind with
  | .halted => s.haltedReply h t a1 a2
  | .refused => s.refusedReply h .halt a1
  | .fault => s.faultReply h .halt a1
  | _ => s

/-- ALC matches a received reply, takes it and hands it to HDT, or discards it (R91, R92). -/
def State.takeReply (s : State) (l : HeadId) (kind : ReplyKind) (tag : Byte) (a1 a2 : Word) : State :=
  match (s.lane l).out with
  | .free => s.lateReply l kind tag false
  | .order o =>
    if o.tag = tag then
      if kind.fits o.kind then ((((s.retireLane l).orderReply l o kind a1 a2).settleLost l).issueHeld l)
      else s.lateReply l kind tag true
    else s.lateReply l kind tag false
  | .halt t =>
    if t.tag = tag then
      if kind.fits .halt then ((((s.retireLane l).haltReply l t kind a1 a2).settleLost l).issueHeld l)
      else s.lateReply l kind tag true
    else s.lateReply l kind tag false

/-! ### Receipt (R85) -/

/-- A lane's receiver takes a new state. -/
def State.setReceiver (s : State) (l : HeadId) (r : Receiver) : State := s.modLane l fun x => { x with receiver := r }

/-- A reply's frame has been received whole. A receiver waiting for an idle line does not take it, and while a soft reset's
RAISE is being sent it is discarded without a record (R85, R101). -/
def State.receiveReply (s : State) (l : HeadId) (kind : ReplyKind) (tag : Byte) (a1 a2 : Word) : State :=
  if (s.lane l).receiver = .waitIdle then s
  else if (s.lane l).resetRaise.isSome then s.setReceiver l .hunting
  else (s.setReceiver l .hunting).takeReply l kind tag a1 a2

/-- A discarded frame: LINK_FRAME, and the receiver waits for an idle line (R85, R99). -/
def State.discardFrame (s : State) (l : HeadId) (cause : Nat) (code : Byte) : State :=
  (s.submitHead .linkFrame l cause (code.setWidth 32)).setReceiver l .waitIdle

/-- Twelve bytes have been received on a lane: the check byte is tested, then the code (R85). A frame that passes both is
the reply it spells; bytes that do not open with the start byte are passed over. -/
def State.receiveFrame (s : State) (l : HeadId) (f : BitVec 96) : State :=
  if (s.lane l).receiver = .waitIdle then s
  else if frameByte f 0 ≠ Config.startByte then s
  else if frameCrc f ≠ frameByte f 11 then s.discardFrame l 2 (frameByte f 1)
  else match ReplyKind.ofCode (frameByte f 1).toNat with
    | none => s.discardFrame l 3 (frameByte f 1)
    | some kind => s.receiveReply l kind (frameByte f 2) (f.extractLsb' 24 32) (f.extractLsb' 56 32)

/-- A gap of more than 4 µs inside a frame (R85). -/
def State.frameGap (s : State) (l : HeadId) : State :=
  match (s.lane l).receiver with
  | .inside _ => s.discardFrame l 1 0
  | _ => s

/-- The line has been idle 4 µs after a discarded frame (R85). -/
def State.receiverIdle (s : State) (l : HeadId) : State :=
  if (s.lane l).receiver = .waitIdle then s.setReceiver l .hunting else s

/-- A byte equal to the start byte: it opens a frame in a hunting receiver, and joins the frame inside one (R85). The
twelfth byte of a frame is the frame's own command (notes/assumptions/12.md). -/
def State.startByteArrives (s : State) (l : HeadId) : State :=
  match (s.lane l).receiver with
  | .hunting => s.setReceiver l (.inside [Config.startByte])
  | .inside bs => if bs.length < 11 then s.setReceiver l (.inside (bs ++ [Config.startByte])) else s
  | .waitIdle => s

/-! ### Timeouts and pending HALTs (R84, R93) -/

/-- What a timeout does to the head: LOST, but a HOMING head waits for its held HOME, and a head LOST already stays so (R46,
R54, R56, R93). -/
def State.timeoutHead (s : State) (h : HeadId) (k : OrderKind) : State :=
  let x := s.head h
  if x.state = .lost then s
  else if x.state = .homing ∧ !x.answers k then s
  else s.loseHead h

/-- The timer of a lane's outstanding order or HALT expires (R93). -/
def State.expireOrder (s : State) (l : HeadId) : State :=
  let go (k : OrderKind) (tag : Byte) : State :=
    (((((s.expireLane l).submitHead .driveTimeout l 0 (codeTagDetail k.code tag)).timeoutHead l k).settleLost l).issueHeld l)
  match (s.lane l).out with
  | .free => s
  | .order o => go o.kind o.tag
  | .halt t => go .halt t.tag

/-- The transmit line has been idle 2 µs: a pending HALT is sent over the order it is to replace, and an order that HDT holds
for the line alone is issued (R84, R90, notes/assumptions/58.md). -/
def State.sendPendingHalt (s : State) (l : HeadId) : State :=
  if (s.lane l).pendingHalt then s.sendHalt l
  else if (s.head l).heldOrder.isSome ∧ (s.lane l).out = .free then
    (s.modLane l fun x => { x with txTimer := none }).issueHeld l
  else s

end Sys2Proof.Machine
end

