-- ==== Sys2Proof/Machine/Contacts.lean ====
section
/-! DEFINITION. The Contact Monitor (06_touchdown_and_contact): the contact filters, and what a filtered change or a landing
window's end does to the head and its step. -/

namespace Sys2Proof.Machine

/-! ### Recognitions (R103, R106-R109) -/

/-- The X argument of a head's outstanding GOTO (R108). -/
def State.gotoX (s : State) (h : HeadId) : Word := match (s.lane h).out with | .order o => o.arg1 | _ => 0

/-- Contact in travel: the fault names the GOTO's X, a HALT is requested, and the head is LOST at once (R108). -/
def State.contactInTravel (s : State) (h : HeadId) : State :=
  (((s.submitHead .contactInTravel h 0 (s.gotoX h)).modLane h Lane.markContact).requestHalt h).loseHead h

/-- Loss of contact on a LANDED head: the engine abandons the step, then a retouch begins with a RAISE, or the point fails
(R109). -/
def State.contactLost (s : State) (h : HeadId) : State :=
  match s.runningPoint h with
  | some (e, n) => (((s.abandon e.pos).raiseHead h).missPoint e.pos n .lostContact)
  | none => s

/-- The filtered level of a head takes a new value, with its effect by the head's state (R103). -/
def State.filteredChange (s : State) (h : HeadId) (made : Bool) : State :=
  let s' := s.modContact h fun c => { c with filtered := made }
  match made, (s.head h).state with
  | true, .settling => s'.landHead h
  | true, .moving => s'.contactInTravel h
  | false, .landed => s'.contactLost h
  | _, _ => s'

/-! ### The filter (R103) -/

/-- The filter timer after a sampled raw level, for a nonzero code (R103). -/
def Contact.sampled (c : Contact) (made : Bool) : Contact :=
  { c with
    raw := made
    timer := if made = c.filtered then none else if c.timer.isSome then c.timer else some 0 }

/-- A sampled raw contact level (R103). With code 0 the filtered level follows it at once. -/
def State.contactSample (s : State) (h : HeadId) (made : Bool) : State :=
  if s.ctm.code = 0 then
    let s' := s.modContact h fun c => { c with raw := made, timer := none }
    if (s.contact h).filtered = made then s' else s'.filteredChange h made
  else s.modContact h fun c => c.sampled made

/-- A head's filter timer reaches the filter time (R103). -/
def State.contactFilterExpires (s : State) (h : HeadId) : State :=
  if (s.contact h).timer.isSome then
    (s.modContact h fun c => { c with timer := none }).filteredChange h (s.contact h).raw
  else s

/-! ### The landing window (R106, R107) -/

/-- The landing window reaches its length: a bounce (R106, R107). -/
def State.bounce (s : State) (h : HeadId) : State :=
  if (s.contact h).window.isSome ∧ (s.head h).state = .settling then
    match s.runningPoint h with
    | some (e, n) => (s.raiseHead h).missPoint e.pos n .noContact
    | none => s.raiseHead h
  else s

end Sys2Proof.Machine
end

