-- ==== Sys2Proof/Machine/Engine.lean ====
section
/-! DEFINITION. The Measurement Engine (07_measurement_engine): taking a step, attempts, ranges, values, verdicts and the
delivery. -/

namespace Sys2Proof.Machine

/-! ### Starting ranges and connections (R119, R120, R128) -/

/-- The smallest k of 0-7 with E ≤ 10^(k+7), 7 when there is none (R128). -/
def resistanceRange (e : Nat) : Nat := ((List.range 7).find? fun k => e ≤ 10 ^ (k + 7)).getD 7

/-- The largest k of 3-6 with E ≤ 10^(12-k), 3 when there is none (R128). -/
def capacitanceRange (e : Nat) : Nat := ([6, 5, 4].find? fun k => e ≤ 10 ^ (12 - k)).getD 3

/-- The range of the first attempt of a kind (R128). -/
def StepKind.startRange (k : StepKind) (r : BitVec 768) : Nat :=
  match k with
  | .res2 | .res4 => resistanceRange (reqExpected r)
  | .cap => capacitanceRange (reqExpected r)
  | .cont => 1
  | .iso => 7
  | .diode => reqRange r
  | _ => 0

/-- The connection of a kind (R119). -/
def StepKind.matrix (k : StepKind) : MatrixKind :=
  match k with
  | .res4 => .fourWire
  | .diode => .diode
  | .cap => .capacitance
  | _ => .twoWire

/-- The connection of a step's heads (R119). -/
def Entry.connection (e : Entry) (k : StepKind) : Option Connection :=
  e.a.head.map fun a => ⟨k.matrix, a, if k = .cap then none else e.b.head⟩

/-- The compliance level of a step's code; code 0 takes the default in force (R120). -/
def Engine.level (m : Engine) (r : BitVec 768) : Nat :=
  Config.complianceLevel (if reqCompliance r = 0 then m.defaultCompliance else reqCompliance r)

/-! ### Attempts (R121, R122) -/

/-- The settle is over: INTEGRATE, or for CAP the charge starts with the source on (R122, R125). -/
def Engine.startReading (m : Engine) (kind : StepKind) (now : Tick) : Engine :=
  if kind = .cap then { m with phase := .charge, settle := none, chargeStart := now, source := some m.k }
  else { m with phase := .integrate, settle := none, sampleTimer := 0 }

/-- An attempt begins at range k with a settle of `len` µs; a length of 0 goes on at once (R121, R122). -/
def Engine.beginAttempt (m : Engine) (kind : StepKind) (k len : Nat) (now : Tick) : Engine :=
  let m :=
    { m with
      phase := .settle
      k := k
      samples := 0
      sum := 0
      overMark := false
      complianceMark := false
      settle := some (0, len)
      source := if kind = .cap then none else some k }
  if len = 0 then m.startReading kind now else m

/-- An attempt of a step begins (R121). -/
def State.beginAttempt (s : State) (p : Pos) (kind : StepKind) (k len : Nat) : State :=
  (s.modEntry p fun e => { e with attempts := e.attempts + 1 }).modMen fun m => m.beginAttempt kind k len s.tmb.ticks

/-- The engine takes a LANDED step (R118). -/
def State.takeStep (s : State) (e : Entry) (kind : StepKind) : State :=
  (s.modMen fun m =>
    { m with
      served := some e.pos
      attempts := []
      compliance := m.level e.request
      matrix := e.connection kind }).beginAttempt e.pos kind (kind.startRange e.request) (reqSettle e.request)

/-- The oldest LANDED step (R118). -/
def State.oldestLanded (s : State) : Option Entry := s.window.find? fun e => s.stepState e = .landed

/-- What the FREE engine does when a step is LANDED; none when nothing is to be taken (R118). -/
def State.engineTake (s : State) : Option State :=
  if s.men.phase = .free then
    s.oldestLanded.bind fun e => e.kind.map fun k => s.takeStep e k
  else none

/-! ### Evaluation (R127-R136) -/

/-- What the evaluation of an attempt leads to. -/
inductive Evaluation where
  | again (k : Nat)
  | value (v : Nat) (highClamp lowClamp : Bool)
  deriving DecidableEq, Repr

/-- An attempt ended over range or at compliance. -/
def AttemptOutcome.overloaded (o : AttemptOutcome) : Bool := o = .overRange || o = .compliant

/-- Some entry at a range has an outcome that passes a test. -/
def recordedAt (earlier : List Attempt) (k : Nat) (bad : AttemptOutcome → Bool) : Bool :=
  earlier.any fun a => a.k == k && bad a.outcome

/-- The full scale of range k (R127, R130). -/
def fullScale (k : Nat) : Nat := 2000000 * 10 ^ (k + 1)

/-- A resistance formed from N at range k, with a lead subtraction that stops at 0 (R127, R132). -/
def resistanceValue (n : Int) (k leads : Nat) : Evaluation :=
  if n < 0 then .value 0 false true
  else
    let raw := n.toNat * 10 ^ (k + 1)
    .value (raw - leads) false (decide (raw < leads))

/-- The auto-ranged resistance kinds (R129). -/
def evaluateRanged (earlier : List Attempt) (o : AttemptOutcome) (n : Int) (k leads : Nat) : Evaluation :=
  if o.overloaded && decide (k < 7) && decide (earlier.length < Config.maxReranges) then .again (k + 1)
  else if o.overloaded then .value (fullScale k) true false
  else if decide (n.natAbs < Config.lowReading) && decide (0 < k)
      && !recordedAt earlier (k - 1) AttemptOutcome.overloaded && decide (earlier.length < Config.maxReranges) then
    .again (k - 1)
  else resistanceValue n k leads

/-- The fixed-range resistance kinds (R131). -/
def evaluateFixed (o : AttemptOutcome) (n : Int) (k leads : Nat) : Evaluation :=
  if o.overloaded then .value (fullScale k) true false else resistanceValue n k leads

/-- DIODE (R133). -/
def evaluateDiode (o : AttemptOutcome) (n : Int) : Evaluation :=
  if o.overloaded then .value 2000000 true false
  else if n < 0 then .value 0 false true
  else .value n.toNat false false

/-- CAP; the reading is the tick count (R134, R135). -/
def evaluateCap (earlier : List Attempt) (o : AttemptOutcome) (ticks : Int) (k : Nat) : Evaluation :=
  let clamp : Evaluation := .value (Config.maxCharge * 10 ^ (6 - k)) true false
  let more := decide (earlier.length < Config.maxReranges)
  if o = .noCrossing then (if decide (3 < k) && more then .again (k - 1) else clamp)
  else if (o = .short || o = .compliant) && decide (k < 6) && !recordedAt earlier (k + 1) (· = .noCrossing) && more then
    .again (k + 1)
  else if o = .compliant then clamp
  else .value (ticks.toNat * 10 ^ (6 - k)) false false

/-- The evaluation of an attempt under the rule of its kind (R129, R131, R133, R134). -/
def StepKind.evaluate (kind : StepKind) (earlier : List Attempt) (o : AttemptOutcome) (n : Int) (k leads : Nat) :
    Evaluation :=
  match kind with
  | .res2 => evaluateRanged earlier o n k leads
  | .res4 => evaluateRanged earlier o n k 0
  | .cont => evaluateFixed o n k leads
  | .iso | .cal => evaluateFixed o n k 0
  | .diode => evaluateDiode o n
  | .cap => evaluateCap earlier o n k
  | _ => .value 0 false false

/-- The sum of the lead values of the step's two heads (R132). -/
def State.leadsOf (s : State) (e : Entry) : Nat :=
  let one (h : Option HeadId) : Nat := match h with | some h => (s.head h).lead | none => 0
  one e.a.head + one e.b.head

/-! ### Verdicts (R136-R138) -/

/-- The guarded low limit (R137). -/
def guardedLow (r : BitVec 768) : Nat := reqLow r + reqLow r * reqGuardBand r / 1000

/-- The guarded high limit (R137). -/
def guardedHigh (r : BitVec 768) : Nat := reqHigh r - reqHigh r * reqGuardBand r / 1000

/-- The verdict on a value of a kind (R136, R138). -/
def StepKind.judge (kind : StepKind) (r : BitVec 768) (v : Nat) : Verdict :=
  match kind with
  | .cont =>
    if reqHigh r < v then .failHigh else if v ≤ guardedHigh r then .pass else .passMarginal
  | .iso =>
    if v < reqLow r then .failLow else if guardedLow r ≤ v then .pass else .passMarginal
  | .cal => if v ≤ Config.calLimit then .done else .failHigh
  | _ =>
    if v < reqLow r then .failLow
    else if reqHigh r < v then .failHigh
    else if guardedLow r ≤ v ∧ v ≤ guardedHigh r then .pass
    else .passMarginal

/-- HDT sets the two lead values of a CAL that is DONE (R136). -/
def State.setLeads (s : State) (e : Entry) (raw : Nat) : State :=
  let one (s : State) (h : Option HeadId) (v : Nat) : State :=
    match h with | some h => s.modHead h fun x => { x with lead := v } | none => s
  one (one s e.a.head (raw / 2)) e.b.head (raw - raw / 2)

/-! ### Delivery (R19, R139) -/

/-- The entry with a delivery recorded (R19, R139). -/
def Entry.delivered (e : Entry) (m : Engine) (v : Nat) (highClamp lowClamp : Bool) (verdict : Verdict) : Entry :=
  { e with
    value := v
    finalRange := m.k
    verdict := some verdict
    flags :=
      { e.flags with
        highClamp := highClamp
        lowClamp := lowClamp
        complianceSeen := m.attempts.any (·.complianceMark)
        reranged := decide (1 < m.attempts.length) } }

/-- MEN completes a measurement and SEQ takes the step into LIFTING (R19, R139). -/
def State.deliver (s : State) (e : Entry) (kind : StepKind) (v : Nat) (highClamp lowClamp : Bool) : State :=
  let verdict := kind.judge e.request v
  let s := if kind = .cal ∧ verdict = .done then s.setLeads e v else s
  let m := s.men
  ((s.modMen Engine.released).modEntry e.pos fun e => e.delivered m v highClamp lowClamp verdict).enterLifting e.pos

/-- An attempt ends: its entry is recorded and it is evaluated, which leads to a further attempt or to the delivery
(R123, R125, R129, R131, R133, R134). -/
def State.closeAttempt (s : State) (e : Entry) (kind : StepKind) (o : AttemptOutcome) (n : Int) : State :=
  let m := s.men
  let s := s.modMen fun m =>
    { m with
      attempts := m.attempts ++ [⟨m.k, o, n, m.complianceMark⟩]
      source := if kind = .cap then none else m.source }
  match kind.evaluate m.attempts o n m.k (s.leadsOf e) with
  | .again k => s.beginAttempt e.pos kind k s.men.secondarySettle
  | .value v hi lo => s.deliver e kind v hi lo

/-- The step the engine serves, with its kind. -/
def State.servedStep (s : State) : Option (Entry × StepKind) :=
  s.men.served.bind fun p => (s.entry? p).bind fun e => e.kind.map fun k => (e, k)

/-- A sample as it is taken: saturated at ±2,000,000 (R123). -/
def saturate (v : Int) : Int := max (-Config.adcLimit) (min Config.adcLimit v)

/-- One sample joins the integration (R123). -/
def Engine.takeSample (m : Engine) (v : Int) : Engine :=
  { m with
    samples := m.samples + 1
    sum := m.sum + saturate v
    overMark := m.overMark || saturate v != v }

/-- The outcome of a whole integration (R123). -/
def Engine.integrated (m : Engine) : AttemptOutcome :=
  if m.overMark then .overRange else if m.complianceMark then .compliant else .inRange

/-- The attempt value N (R123). -/
def Engine.reading (m : Engine) : Int := roundHalfAway m.sum m.samples

/-- The ADC takes a sample; at the S-th the attempt is evaluated (R123). -/
def State.sample (s : State) (v : Int) : State :=
  if s.men.phase ≠ .integrate then s
  else match s.servedStep with
    | none => s
    | some (e, kind) =>
      let s := s.modMen fun m => m.takeSample v
      if s.men.samples < reqSamples e.request then s else s.closeAttempt e kind s.men.integrated s.men.reading

/-- The compliance comparator flags (R124, R125). -/
def State.compliance (s : State) : State :=
  match s.men.phase with
  | .integrate => s.modMen fun m => { m with complianceMark := true }
  | .charge =>
    let s := s.modMen fun m => { m with complianceMark := true }
    match s.servedStep with
    | none => s
    | some (e, kind) => s.closeAttempt e kind .compliant 0
  | _ => s

/-- The charge ends with a tick count, or with none when nothing crossed (R125). A count beyond the window is no crossing
(notes/assumptions/13.md). A crossing at 16,777,215 ticks is one (R125), so that an accepted C can equal the clamp, where R135 has it lie
below (notes/assumptions/32.md). -/
def State.endCharge (s : State) (ticks : Option Nat) : State :=
  if s.men.phase ≠ .charge then s
  else match s.servedStep with
    | none => s
    | some (e, kind) =>
      match ticks with
      | none => s.closeAttempt e kind .noCrossing 0
      | some n =>
        if Config.maxCharge < n then s.closeAttempt e kind .noCrossing 0
        else s.closeAttempt e kind (if n < Config.shortCharge then .short else .crossed) n

/-- The tick of a crossing is captured and the charge ends (R125). -/
def State.crossing (s : State) (capture : Tick) : State :=
  if s.men.phase ≠ .charge then s
  else (s.modMen fun m => { m with capture := capture }).endCharge (some (capture - s.men.chargeStart).toNat)

/-- The settle timer expires (R122). -/
def State.settled (s : State) : State :=
  match s.men.settle, s.servedStep with
  | some _, some (_, kind) => s.modMen fun m => m.startReading kind s.tmb.ticks
  | _, _ => s

end Sys2Proof.Machine
end

