-- ==== Sys2Proof/Machine/Sequencer.lean ====
section
/-! DEFINITION. The Step Sequencer and the control steps: dispatch (R9-R11), activation (R12-R17, R28), HOME_SIDE (R56, R57),
ENABLE, DISABLE and RESET_WEAR (R59), PARK (R60, R61) and RELOAD (R16, R17). -/

namespace Sys2Proof.Machine

/-! ### Dispatch checks (R10) -/

/-- A selector has a valid side, and a head it names lies on that side (R4, R10 check 3). -/
def selectorValid (sel : Nat) : Bool :=
  match selectorSide sel, selectorHead sel with
  | some d, .named h => h.side = d
  | some _, .any => true
  | _, _ => false

/-- Both points of a step lie on one side. -/
def Entry.oneSided (e : Entry) : Bool := e.points = [.a, .b] && e.sideOf .a = e.sideOf .b

/-- The head a point's selector names, if any (R4). -/
def Entry.named (e : Entry) (n : PointName) : Option HeadId :=
  match selectorHead (reqSelector e.request n) with
  | .named h => some h
  | _ => none

/-- The kinds whose limits must be in order (R10 check 5). -/
def StepKind.limitsOrdered : StepKind → Bool
  | .res2 | .res4 | .diode | .cap => true
  | _ => false

/-- The transform a point uses is valid (R10 check 6). -/
def State.transformReady (s : State) (e : Entry) (n : PointName) : Bool :=
  match s.fru.transforms.get? (reqImage e.request) with
  | some t => (t.get (e.sideOf n)).valid
  | none => false

/-- A point's machine target, none when it lies outside the CAD range (R4, R30-R33). -/
def State.pointTarget (s : State) (e : Entry) (n : PointName) : Option (Int × Int) :=
  let c := reqPoint e.request n
  if reqMachineCoords e.request then some c
  else (s.fru.transforms.get? (reqImage e.request)).bind fun t => transformPoint (t.get (e.sideOf n)) c.1 c.2

/-- The transform, reach and keep-out checks of one point (R10 checks 7-10). -/
def State.pointCheck (s : State) (e : Entry) (n : PointName) : Option Verdict :=
  match s.pointTarget e n with
  | none => some .outOfReach
  | some t =>
    if !inReach (s.fru.area.get (e.sideOf n)) t then some .outOfReach
    else if inKeepOut (s.fru.keepOut.get (e.sideOf n)) t then some .keepOut
    else none

/-- The checks on a pair of points of one side (R10 checks 11, 12). -/
def State.pairCheck (s : State) (e : Entry) : Option Verdict :=
  match s.pointTarget e .a, s.pointTarget e .b with
  | some ta, some tb =>
    let ba : Int := s.band ta.1
    let bb : Int := s.band tb.1
    if (ba - bb).natAbs ≤ 2 * s.fru.margin then some .pointsTooClose
    else match e.named .a, e.named .b with
      | some ha, some hb =>
        if (if ta.1 < tb.1 then hb.index < ha.index else ha.index < hb.index) then some .badStep else none
      | _, _ => none
  | _, _ => none

/-- The verdict of the first dispatch check that fails, none when every check passes (R10). -/
def State.dispatchVerdict (s : State) (e : Entry) : Option Verdict :=
  match e.kind with
  | none => some .badStep
  | some k =>
    if !e.points.all (fun n => selectorValid (reqSelector e.request n)) then some .badStep
    else if e.oneSided && (e.named .a).isSome && e.named .a = e.named .b then some .badStep
    else if k.limitsOrdered && decide (reqHigh e.request < reqLow e.request) then some .badStep
    else if !reqMachineCoords e.request && !e.points.all (s.transformReady e) then some .badStep
    else match s.pointCheck e .a with
      | some v => some v
      | none =>
        match if k.usesB then s.pointCheck e .b else none with
        | some v => some v
        | none => if e.oneSided then s.pairCheck e else none

/-- The entry of a step that passes R10: targets stored, WAITING, a stall timer when the limit is not 0 (R10, R11, R66). -/
def State.joined (s : State) (e : Entry) : Entry :=
  { e with
    phase := .waiting
    a := { e.a with target := s.pointTarget e .a }
    b := if e.points = [.a, .b] then { e.b with target := s.pointTarget e .b } else e.b
    stall := if s.stallLimit = 0 then none else some ⟨0, s.stallLimit, false⟩ }

/-- A PENDING step is dispatched: DONE at once, or into the wait list, which calls for evaluations (R10, R11, R67). -/
def State.dispatchStep (s : State) (e : Entry) : State :=
  match s.dispatchVerdict e with
  | some v => s.finishStep e.pos v
  | none => (e.points.map e.sideOf).foldl State.callEval (s.modEntry e.pos fun e => s.joined e)

/-- The entries older than a position in the window. -/
def State.olderThan (s : State) (p : Pos) : List Entry := s.window.takeWhile fun e => e.pos ≠ p

/-- A step that dispatch takes: a measurement kind, or an unknown kind (R9). -/
def Entry.dispatches (e : Entry) : Bool := match e.kind with | some k => k.isMeasurement | none => true

/-- An entry is a barrier step (R12). -/
def Entry.isBarrier (e : Entry) : Bool := match e.kind with | some k => k.isBarrier | none => false

/-- The dispatch conditions of R9. -/
def State.dispatchable (s : State) (e : Entry) : Bool :=
  s.run.state == .running && e.phase == .pending && e.dispatches
    && (s.olderThan e.pos).all fun q => !(q.isBarrier && q.phase != .done)

/-- One of the dispatchable steps is dispatched, the order a free choice; none when there is no such step (R9). -/
def State.dispatchOne (s : State) : Option State :=
  match s.window.filter s.dispatchable with
  | [] => none
  | e :: es =>
    let c := s.choose (es.length + 1)
    some (c.2.dispatchStep ((e :: es).getD c.1 e))

/-! ### HEAD (R28, R56-R59) -/

/-- HOME_SIDE becomes ACTIVE: the side closes, its bands are cleared, its heads are HOMING, and HOME is issued or held
(R56). -/
def State.startHoming (s : State) (p : Pos) (d : Side) : State :=
  let s := { s with sides := s.sides.set d false }.modEntry p fun e => { e with phase := .active }
  let s := d.heads.foldl (fun s h => s.modHead h fun x =>
    { x with held := none, state := .homing, assigned := some p, serving := some .home }) s
  d.heads.foldl (fun s h => s.requestOrder h .home) (s.callEval d)

/-- The side an entry homes while it is an ACTIVE HOME_SIDE. -/
def Entry.homes (e : Entry) : Option Side :=
  if e.phase = .active ∧ e.kind = some .head then
    match headAction e.request with
    | some (.homeSide d) => some d
    | _ => none
  else none

/-- The end of a HOME_SIDE whose four heads have left HOMING; none when there is no such step (R57, R48). -/
def State.homingEnd (s : State) : Option State :=
  (s.window.findSome? fun e => e.homes.map fun d => (e, d)).bind fun ed =>
    let d := ed.2
    if d.heads.any fun h => (s.head h).state = .homing then none
    else if d.heads.all fun h => (s.head h).state = .idle then
      some (({ s with sides := s.sides.set d true }.finishStep ed.1.pos .done).callEval d)
    else some (s.finishStep ed.1.pos .driveFailure)

/-- The action of a HEAD step (R56, R59). -/
def State.runHeadAction (s : State) (p : Pos) (a : HeadAction) : State :=
  match a with
  | .homeSide d => s.startHoming p d
  | .enable h => (s.modHead h fun x => { x with enabled := true }).finishStep p .done
  | .disable h => (s.modHead h fun x => { x with enabled := false }).finishStep p .done
  | .resetWear h => (s.modHead h fun x => { x with touches := 0, worn := false }).finishStep p .done

/-! ### PARK (R60, R61, R82) -/

/-- A PARK step is done, PARTIAL when a head was skipped (R60). -/
def State.finishPark (s : State) (p : Pos) (skipped : Bool) : State :=
  (({ s with park := none }).modEntry p fun e => { e with flags := { e.flags with partialPark := skipped } }).finishStep p
    .done

/-- The order in which a pass takes the heads of a side: outer heads first (R60). -/
def parkOrder (d : Side) : List HeadId := [d.head 0, d.head 3, d.head 1, d.head 2]

/-- PARK becomes ACTIVE (R60). -/
def State.startPark (s : State) (p : Pos) (d : Side) : State :=
  if s.sides.get d then
    { (s.modEntry p fun e => { e with phase := .active }) with
      park := some
        { pos := p, side := d, settled := [], skipped := false, rest := parkOrder d, moved := false, current := none } }
  else s.finishPark p true

/-- What a pass does with a head that is not settled (R60, R82). -/
inductive ParkAction where
  | atHome
  | skip
  | defer
  | go (sweep : Range)
  deriving DecidableEq, Repr

/-- A band of a range is held by a head other than h that passes a test. -/
def State.heldBy (s : State) (h : HeadId) (r : Range) (test : Head → Bool) : Bool :=
  r.bands.any fun b => match s.holder h.side b with | some q => q != h && test (s.head q) | none => false

/-- The row of R60 that applies to a head, the rows taken in the table's order (notes/assumptions/14.md). -/
def State.parkAction (s : State) (h : HeadId) : ParkAction :=
  let x := s.head h
  let r := s.sweep x.x x.homeX
  if x.x = x.homeX ∧ x.y = x.homeY then .atHome
  else if x.state ≠ .idle then .skip
  else if s.heldBy h r (fun q => q.state == .lost) then .skip
  else if s.heldBy h r (fun _ => true) || !s.clearFor h r then .defer
  else .go r

/-- A PARK's move of a head is issued (R60, R82). -/
def State.parkGo (s : State) (k : Park) (h : HeadId) (rest : List HeadId) (r : Range) : State :=
  let s := { s with park := some { k with rest := rest, moved := true, current := some h } }
  let s := s.modHead h fun x => { x with assigned := some k.pos, serving := some .park }
  s.reserveAndGo h r (s.head h).homeX (s.head h).homeY

/-- One head's turn in a PARK, or the end of a pass; none while a move is out or when no PARK is ACTIVE (R60). -/
def State.parkStep (s : State) : Option State :=
  s.park.bind fun k =>
    if k.current.isSome then none
    else match k.rest with
      | h :: rest =>
        if k.settled.contains h then some { s with park := some { k with rest := rest } }
        else match s.parkAction h with
          | .atHome => some { s with park := some { k with rest := rest, settled := h :: k.settled } }
          | .skip => some { s with park := some { k with rest := rest, settled := h :: k.settled, skipped := true } }
          | .defer => some { s with park := some { k with rest := rest } }
          | .go r => some (s.parkGo k h rest r)
      | [] =>
        if k.moved then some { s with park := some { k with rest := parkOrder k.side, moved := false } }
        else some (s.finishPark k.pos (k.skipped || !(parkOrder k.side).all k.settled.contains))

/-! ### RELOAD (R16, R17, R191) -/

/-- The control-block ranges a mask reads, by byte offset, in the order they are issued (R191, notes/assumptions/54.md). -/
def reloadRanges (mask : Nat) : List Nat :=
  (if mask.testBit 1 || mask.testBit 3 then [0x040] else [])
    ++ (if mask.testBit 2 then [0x080, 0x100] else [])
    ++ (if mask.testBit 0 then [0x180, 0x200, 0x280, 0x300] else [])

/-- The length of the read at an offset: one of 64 bytes, the others of 128 (R191). -/
def reloadLength (off : Nat) : Nat := if off = 0x040 then 64 else 128

/-- RELOAD becomes ACTIVE and its reads are issued; an empty mask is DONE at once (R16). -/
def State.startReload (s : State) (p : Pos) (mask : Nat) : State :=
  match reloadRanges mask with
  | [] => s.finishStep p .done
  | offs =>
    let first := s.bus.nextRead
    let s := s.modEntry p fun e => { e with phase := .active }
    let s := offs.foldl (fun s off =>
      s.requestRead (.reload off) (s.bus.cba + BitVec.ofNat 64 off) (reloadLength off) none 0) s
    { s with reload := some { pos := p, mask := mask, out := (List.range offs.length).map (first + ·), got := [] } }

/-- The control block as far as a RELOAD has read it. -/
def reloadedBlock (got : List (Nat × Block)) : ControlBlock :=
  got.foldl (fun b g => b ||| ControlBlock.viewAt g.1 (if g.1 = 0x040 then (g.2.setWidth 512).setWidth 1024 else g.2)) 0

/-- The timeout, stall limit and tolerance ranges (R17). -/
def limitsValid (b : ControlBlock) : Bool :=
  decide (1 ≤ cbGotoTimeout b ∧ 1 ≤ cbDescendTimeout b ∧ 1 ≤ cbRaiseTimeout b ∧ 1 ≤ cbHomeTimeout b
    ∧ cbStallLimit b ≤ 600000 ∧ cbTolerance b ≤ 1000)

/-- The default compliance code range (R17, R117). -/
def complianceValid (b : ControlBlock) : Bool := decide (1 ≤ cbCompliance b ∧ cbCompliance b ≤ 15)

/-- Every field of the named sections is in range (R17). -/
def reloadValid (mask : Nat) (b : ControlBlock) : Bool :=
  (!mask.testBit 1 || (limitsValid b && complianceValid b))
    && (!mask.testBit 2 || allHeads.all fun h => decide (cbWearLimit b h ≤ Config.maxTouches))

/-- The poll interval as applied: clamped to 1-1,000 ms (R17, R142). -/
def clampPoll (n : Nat) : Nat := min (max n 1) 1000

/-- The lane quantities a control block gives (R88, R141). -/
def laneConfigOf (b : ControlBlock) : LaneConfig :=
  { gotoTimeout := cbGotoTimeout b, descendTimeout := cbDescendTimeout b, raiseTimeout := cbRaiseTimeout b,
    homeTimeout := cbHomeTimeout b, tolerance := cbTolerance b, descentLimit := cbDescent b }

/-- The timeouts-and-limits section is applied (R17, R117). -/
def State.applyLimits (s : State) (b : ControlBlock) : State :=
  { s with alc := laneConfigOf b, stallLimit := cbStallLimit b }.modMen fun m =>
    { m with secondarySettle := cbSecondarySettle b, defaultCompliance := cbCompliance b }

/-- The head section is applied, and each head's wear judged again, in head id order (R17, R51,
notes/assumptions/46.md). -/
def State.applyHeads (s : State) (b : ControlBlock) : State :=
  allHeads.foldl (fun s h =>
    (s.modHead h fun x => { x with enabled := cbEnabled b h, wearLimit := cbWearLimit b h }).judgeWorn h none) s

/-- The named sections are applied together (R17). -/
def State.applyReload (s : State) (mask : Nat) (b : ControlBlock) : State :=
  let s := if mask.testBit 0 then { s with fru := { s.fru with keepOut := cbKeepOut b } } else s
  let s := if mask.testBit 1 then s.applyLimits b else s
  let s := if mask.testBit 2 then s.applyHeads b else s
  if mask.testBit 3 then s.modPlr fun p => { p with pollInterval := clampPoll (cbPollInterval b) } else s

/-- A RELOAD's last read has returned: its sections are applied, or it ends with BAD_STEP (R17). -/
def State.finishReload (s : State) (k : Reload) : State :=
  let b := reloadedBlock k.got
  let s := { s with reload := none }
  if reloadValid k.mask b then (s.applyReload k.mask b).finishStep k.pos .done else s.finishStep k.pos .badStep

/-- One of a RELOAD's reads returns; a read of an earlier activation counts for nothing (R17). -/
def State.reloadReturn (s : State) (id off : Nat) (data : Block) : State :=
  match s.reload with
  | none => s
  | some k =>
    if k.out.contains id then
      let k := { k with out := k.out.filter (· ≠ id), got := k.got ++ [(off, data)] }
      if k.out = [] then s.finishReload k else { s with reload := some k }
    else s

/-! ### Activation (R12-R16, R28) -/

/-- A head state that holds a barrier back (R12). -/
def HeadState.atWork : HeadState → Bool
  | .moving | .descending | .settling | .landed | .raising => true
  | _ => false

/-- The ordering condition of a control step (R12, R14). -/
def State.ordered (s : State) (e : Entry) (k : StepKind) : Bool :=
  let older := s.olderThan e.pos
  if k.isBarrier then older.all (fun q => q.phase == .done) && allHeads.all fun h => !(s.head h).state.atWork
  else older.all fun q => q.phase == .done && q.written

/-- FRAME loads its transform, or is BAD_STEP (R13, R28). -/
def State.runFrame (s : State) (e : Entry) : State :=
  let g := frameImage e.request
  let t := frameTransform e.request
  match s.fru.transforms.get? g, frameSide e.request with
  | some ts, some d =>
    if t.inBounds then
      { s with fru := { s.fru with transforms := s.fru.transforms.set g (ts.set d t) } }.finishStep e.pos .done
    else s.finishStep e.pos .badStep
  | _, _ => s.finishStep e.pos .badStep

/-- MARK requests its value write, or is BAD_STEP (R13, R14). -/
def State.runMark (s : State) (e : Entry) : State :=
  let a := markTarget e.request
  if a.toNat % 4 = 0 ∧ inWindow s.bus.window a 4 then
    let id := s.bus.nextWrite
    (s.modEntry e.pos fun e => { e with phase := .active, markWrite := some id }).requestWrite (.markValue e.pos) a 4
      ((markValue e.request).setWidth 256) (some e.pos)
  else s.finishStep e.pos .badStep

/-- A control step becomes ACTIVE (R13). -/
def State.activate (s : State) (e : Entry) (k : StepKind) : State :=
  match k with
  | .frame => s.runFrame e
  | .head =>
    match headAction e.request with
    | some a => s.runHeadAction e.pos a
    | none => s.finishStep e.pos .badStep
  | .park =>
    match parkSide e.request with
    | some d => s.startPark e.pos d
    | none => s.finishStep e.pos .badStep
  | .reload => s.startReload e.pos (reloadMask e.request)
  | .mark => s.runMark e
  | _ => s

/-- A PENDING control step with its ordering condition met. -/
def State.activatable (s : State) (e : Entry) : Option (Entry × StepKind) :=
  if e.phase = .pending then
    e.kind.bind fun k => if !k.isMeasurement && s.ordered e k then some (e, k) else none
  else none

/-- The oldest control step that can become ACTIVE does; none when RUN is not RUNNING or there is none (R13). -/
def State.activateOne (s : State) : Option State :=
  if s.run.state = .running then (s.window.findSome? s.activatable).map fun ek => s.activate ek.1 ek.2 else none

/-! ### LIFTING ends (R18) -/

/-- Every head still assigned to the step is LOST, or none is (R18). -/
def State.allReleased (s : State) (p : Pos) : Bool :=
  allHeads.all fun h => (s.head h).assigned != some p || (s.head h).state == .lost

/-- A LIFTING step with every head released becomes DONE with its recorded verdict; none when there is no such step
(R18). -/
def State.liftingEnd (s : State) : Option State :=
  (s.window.find? fun e => e.phase = .lifting && s.allReleased e.pos).map fun e =>
    s.finishStep e.pos (e.verdict.getD .driveFailure)

end Sys2Proof.Machine
end

