-- ==== Sys2Proof/Machine/PlanReader.lean ====
section
/-! DEFINITION. The Plan Reader (08_plan_pages_in_shared_memory): header and record reads, the fetch state, the poll timer,
retirement, page handover, and the host writes it issues. -/

namespace Sys2Proof.Machine

/-! ### Reads in flight (R140, R160) -/

def ReadPurpose.isRecord : ReadPurpose → Bool
  | .record _ => true
  | _ => false

def ReadPurpose.isHeader : ReadPurpose → Bool
  | .header _ => true
  | _ => false

def ReadPurpose.isLoading : ReadPurpose → Bool
  | .loading _ => true
  | _ => false

/-- The record reads in flight, the returned ones that wait for an older one among them (R149). -/
def State.recordReads (s : State) : List HostRead := s.bus.reads.filter fun r => r.purpose.isRecord

/-- A header read is in flight (R140). -/
def State.headerReadOut (s : State) : Bool := s.bus.reads.any fun r => r.purpose.isHeader

/-- The read in flight with an identity, when it is still to be answered. -/
def State.openRead (s : State) (id : Nat) : Option HostRead :=
  s.bus.reads.find? fun r => r.id = id && r.data.isNone

/-- A read leaves the list of reads in flight. -/
def State.dropRead (s : State) (id : Nat) : State :=
  s.modBus fun b => { b with reads := b.reads.filter fun r => r.id ≠ id }

/-- Only the re-read of the log's index stays in flight: every other read is discarded on return (R160). The read that
does stay belongs to EVU (notes/assumptions/18.md). -/
def State.dropPlanReads (s : State) : State :=
  s.modBus fun b => { b with reads := b.reads.filter fun r => r.purpose = .logIndex }

/-- PLR ends its work on the window (R160). -/
def State.endFetch (s : State) : State :=
  (s.modPlr fun p =>
    { p with generation := p.generation + 1, pages := [], chain := none, pollTimer := none, fetch := .paused }).dropPlanReads

/-- The run states in which a returned header or record read is acted on (R159). -/
def RunState.takesReads : RunState → Bool
  | .running | .draining | .guarded => true
  | _ => false

/-! ### Page addresses (R146) -/

/-- A page lies wholly inside the memory window. -/
def State.pageInside (s : State) (a : Addr) : Bool := inWindow s.bus.window a Config.pageBytes

/-- An address is a multiple of the page length. -/
def pageAligned (a : Addr) : Bool := a.toNat % Config.pageBytes = 0

/-- The page at the fetch point (R140). -/
def State.fetchPage (s : State) : Option Page := s.plr.pages.getLast?

/-- The page list with its youngest record changed. -/
def modLastPage (f : Page → Page) : List Page → List Page
  | [] => []
  | [p] => [f p]
  | p :: q :: ps => p :: modLastPage f (q :: ps)

/-- The page list with its oldest record changed. -/
def modFirstPage (f : Page → Page) : List Page → List Page
  | [] => []
  | p :: ps => f p :: ps

/-! ### BAD_PAGE (R153) -/

/-- A page fails its checks: BAD_PAGE with its cause and offending value, and RUN is to enter FAULTED (R153). -/
def State.badPage (s : State) (expected : Word) (cause : Nat) (value : Word) : State :=
  (s.submit ⟨.badPage, none, none, expected, none, cause, value⟩).modDue fun u => { u with faulted := true }

/-- The cause and offending value of the first header check that fails; `seq` is the sequence the page must have, if any
(R146). -/
def State.headerCheck (s : State) (d : Block) (seq : Option Word) : Option (Nat × Word) :=
  let next := headerNext d
  let chained := headerComplete d && next != 0
  if headerSignature d ≠ Config.pageSignature then some (1, BitVec.ofNat 32 (headerSignature d))
  else if headerRetired d ≠ 0 then some (2, BitVec.ofNat 32 (headerRetired d))
  else if seq.any (· ≠ headerSequence d) then some (3, headerSequence d)
  else if chained && !pageAligned next then some (4, next.setWidth 32)
  else if chained && !s.pageInside next then some (5, next.setWidth 32)
  else none

/-! ### Headers (R147, R148, R150, R151) -/

/-- Where the fetch state goes once a page's records are all taken (R148). -/
def Page.after (p : Page) : FetchState := if !p.complete then .poll else if p.next ≠ 0 then .chain else .planEnd

/-- The fetch state a page calls for (R148). -/
def Page.fetchState (p : Page) : FetchState := if p.taken < p.heldCount then .take else p.after

/-- The poll timer starts while the fetch state is POLL and RUN is RUNNING (R150). -/
def State.startPoll (s : State) : State :=
  if s.plr.fetch = .poll ∧ s.run.state = .running then s.modPlr fun p => { p with pollTimer := some (0, p.pollInterval) }
  else s

/-- The fetch state takes a new value, and a poll timer starts on the way into POLL (R148, R150). -/
def State.enterFetch (s : State) (f : FetchState) : State := (s.modPlr fun p => { p with fetch := f }).startPoll

/-- A page record as a header leaves it: the held count, and for a complete page the next address (R147). -/
def Page.withHeader (p : Page) (d : Block) : Page :=
  { p with
    heldCount := max (min (headerFilled d) Config.pageRecords) p.taken
    complete := headerComplete d
    next := if headerComplete d then headerNext d else p.next }

/-- The page record of the cursor page at START, before its header is applied (R147). -/
def State.cursorPage (s : State) (d : Block) : Page :=
  { addr := s.plr.cursorAddr, seq := headerSequence d, heldCount := 0, complete := false, next := 0,
    taken := s.plr.cursorIdx, retired := s.plr.cursorIdx }

/-- A poll has found nothing new: STARVED when the window is empty and the arm is set (R151). -/
def State.starve (s : State) : State :=
  if s.window.isEmpty && s.plr.starvedArm then (s.modPlr fun p => { p with starvedArm := false }).setEvent .starved else s

/-- A header that passes is taken (R147, R148, R150). -/
def State.takeHeader (s : State) (d : Block) (poll : Bool) : State :=
  let old := s.fetchPage.getD (s.cursorPage d)
  let new := old.withHeader d
  let s := s.modPlr fun p =>
    { p with
      pages := if p.pages.isEmpty then [new] else modLastPage (fun _ => new) p.pages
      chain := if new.complete && new.next != 0 then some (new.next, new.seq + 1) else p.chain }
  let s := if poll && !new.complete && new.heldCount == old.heldCount then s.starve else s
  s.enterFetch new.fetchState

/-- A header read returns in a run state that acts on it (R146, R153). -/
def State.headerReturn (s : State) (poll : Bool) (d : Block) : State :=
  let seq := s.fetchPage.map (·.seq)
  match s.headerCheck d seq with
  | some (cause, value) => s.badPage (seq.getD (headerSequence d)) cause value
  | none => s.takeHeader d poll

/-! ### Records (R1, R2, R149) -/

/-- The entry of a record as read: DONE and written for a nonzero status, otherwise PENDING and adjusted (R1, R2). -/
def newEntry (pos : Pos) (addr : Addr) (d : Block) : Entry :=
  if recordStatus d ≠ 0 then { Entry.fresh pos addr (recordRequest d) with phase := .done, written := true }
  else Entry.fresh pos addr (adjustRequest (recordRequest d))

/-- An entry joins the young end of the window, and the starved arm is set (R149, R151). -/
def State.addEntry (s : State) (e : Entry) : State :=
  { s with window := s.window ++ [e] }.modPlr fun p => { p with starvedArm := true }

/-- The oldest record read, if it has returned and belongs to the current fetch: the next entry (R149). -/
def State.nextReturned (s : State) : Option (HostRead × Pos × Block) :=
  match s.recordReads with
  | [] => none
  | r :: _ =>
    match r.purpose, r.data with
    | .record pos, some d => if r.generation = s.plr.generation then some (r, pos, d) else none
    | _, _ => none

/-- Entries are created from the returned records that no older one holds back. `fuel` bounds them by the reads in flight
(R149). -/
def State.enterReturned (fuel : Nat) (s : State) : State :=
  match fuel with
  | 0 => s
  | fuel + 1 =>
    match s.nextReturned with
    | none => s
    | some (r, pos, d) => State.enterReturned fuel ((s.dropRead r.id).addEntry (newEntry pos r.addr d))

/-- A record read returns in a run state that acts on it: its data waits for the older records (R149). -/
def State.recordReturn (s : State) (id : Nat) (d : Block) : State :=
  (s.modBus fun b =>
    { b with reads := b.reads.map fun r => if r.id = id then { r with data := some d } else r }).enterReturned 16

/-- A record read is discarded: the younger records behind it can no longer be entered, and are stamped so (R149,
R159). -/
def State.discardRecord (s : State) (id : Nat) : State :=
  (s.modBus fun b =>
    { b with reads := b.reads.map fun r => if r.purpose.isRecord && decide (id < r.id) then { r with generation := 0 } else r
      }).dropRead id

/-! ### The fetch point (R148, R149, R152, R159) -/

/-- A record read is issued, and the fetch page's taken count rises; the fetch state moves on when all are taken (R149,
R148). -/
def State.issueRecord (s : State) (p : Page) : State :=
  let pos : Pos := ⟨p.seq, p.taken⟩
  let s := s.requestRead (.record pos) (p.addr + BitVec.ofNat 64 (128 * (p.taken + 1))) 128 (some pos) p.seq
  let new := { p with taken := p.taken + 1 }
  let s := s.modPlr fun q => { q with pages := modLastPage (fun _ => new) q.pages }
  if new.taken < new.heldCount then s else s.enterFetch new.after

/-- A header read is issued (R146). -/
def State.issueHeader (s : State) (addr : Addr) (poll : Bool) (expected : Word) : State :=
  (s.requestRead (.header poll) addr 128 none expected).enterFetch .header

/-- The next page becomes the fetch page: its address is checked, its record added and its header read issued (R146,
R152). No check asks whether the list holds a page of that address already: a next address that loops back gets a second record,
which stays until its header fails the sequence check (R140, R146, notes/assumptions/62.md). -/
def State.chainOn (s : State) (next : Addr) (seq : Word) : State :=
  if !pageAligned next then s.badPage seq 4 (next.setWidth 32)
  else if !s.pageInside next then s.badPage seq 5 (next.setWidth 32)
  else
    let page : Page := { addr := next, seq := seq, heldCount := 0, complete := false, next := 0, taken := 0, retired := 0 }
    (s.modPlr fun p => { p with pages := p.pages ++ [page] }).issueHeader next false seq

/-- What the fetch point does in RUNNING; none when it waits (R148, R149, R152, R159). -/
def State.fetchStep (s : State) : Option State :=
  if s.run.state ≠ .running then none
  else match s.plr.fetch with
    | .paused | .planEnd => none
    | .header =>
      if s.headerReadOut then none
      else match s.fetchPage with
        | none => some (s.issueHeader s.plr.cursorAddr false 0)
        | some p => some (s.issueHeader p.addr false p.seq)
    | .take =>
      match s.fetchPage with
      | none => none
      | some p =>
        if p.heldCount ≤ p.taken then some (s.enterFetch p.after)
        else if s.window.length + s.recordReads.length < Config.windowSize then some (s.issueRecord p)
        else none
    | .poll => if s.plr.pollTimer.isSome then none else some s.startPoll
    | .chain =>
      match s.plr.chain with
      | none => none
      | some (next, seq) => if s.plr.pages.length < Config.pageListSize then some (s.chainOn next seq) else none

/-- The poll timer expires: the fetch page's header is read again (R150). -/
def State.pollExpires (s : State) : State :=
  match s.plr.pollTimer, s.fetchPage with
  | some _, some p => (s.modPlr fun q => { q with pollTimer := none }).issueHeader p.addr true p.seq
  | _, _ => s

/-- The poll timer stops when RUN leaves RUNNING (R150). -/
def State.stopPoll (s : State) : State := s.modPlr fun p => { p with pollTimer := none }

/-! ### Host writes issued (R14, R24, R157) -/

/-- A status write has been issued: the entry is written (R24). -/
def State.markWritten (s : State) (p : Pos) : State := s.modEntry p fun e => { e with written := true }

/-- A MARK's value write has been issued: the MARK it belongs to is DONE, with its event if the flag is set (R14). A write
of an earlier activation changes nothing (R15). -/
def State.markIssued (s : State) (p : Pos) (id : Nat) : State :=
  match s.entry? p with
  | none => s
  | some e =>
    if e.phase = .active ∧ e.markWrite = some id then
      let s := s.finishStep p .done
      if markInterrupt e.request then s.setEvent .mark else s
    else s

/-- A write whose issue changes the state of a step (R14, R24). -/
def HostWrite.tracked (w : HostWrite) : Bool := match w.tag with | .resultStatus _ | .markValue _ => true | _ => false

/-- In LOADING, the first read waits for one write fewer (R165). -/
def State.writeAheadIssued (s : State) : State :=
  if s.run.state = .loading then
    s.modRun fun r => { r with load := r.load.map fun l => { l with writesAhead := l.writesAhead - 1 } }
  else s

/-- BIF issues the oldest write of the queue, with its effect on its step (R157). -/
def State.issueWrite (s : State) (w : HostWrite) (rest : List HostWrite) : State :=
  let s := (s.modBus fun b => { b with writes := rest }).writeAheadIssued
  match w.tag with
  | .resultStatus p => s.markWritten p
  | .markValue p => s.markIssued p w.id
  | _ => s

/-- BIF issues the writes that stand in the queue, oldest first; `fuel` is their number (R157). -/
def State.issueAll (fuel : Nat) (s : State) : State :=
  match fuel, s.bus.writes with
  | fuel + 1, w :: rest => State.issueAll fuel (s.issueWrite w rest)
  | _, _ => s

/-- BIF issues the whole queue as it stands (R21, R156, R157; notes/assumptions/45.md, 55.md). -/
def State.issueQueue (s : State) : State := s.issueAll s.bus.writes.length

/-! ### Retirement (R154-R156) -/

/-- The oldest entry retires when it is DONE and written; none otherwise (R154). -/
def State.retireOne (s : State) : Option State :=
  match s.window with
  | [] => none
  | e :: es =>
    if e.phase = .done && e.written then
      some ({ s with window := es }.modPlr fun p =>
        { p with
          cursorIdx := p.cursorIdx + 1
          pages := modFirstPage (fun q => { q with retired := q.retired + 1 }) p.pages })
    else none

/-- A cursor page that is complete and wholly retired is handed back: its retired word, the cursor and the counts are
written and it leaves the list. The final page's handover ends the plan, reported once BIF has issued those writes, which it
does on the same event (notes/assumptions/55.md). None otherwise (R155, R156). -/
def State.retirePage (s : State) : Option State :=
  match s.plr.pages with
  | [] => none
  | p :: ps =>
    if p.complete && p.retired == p.heldCount then
      let s := s.requestWrite .retiredWord (p.addr + 0x0C) 4 1 none
      let s := s.modPlr fun q =>
        { q with pages := ps, cursorAddr := p.next, cursorIdx := match ps with | r :: _ => r.retired | [] => 0 }
      let s := s.writeCursor
      let s := if s.plr.planLoaded then s.writeAllCounts else s
      some (if p.next = 0 then s.issueQueue.modDue fun u => { u with planEnd := true } else s)
    else none

/-- One retirement: the cursor page when it is due, otherwise the oldest entry; none when there is nothing to retire
(R154, R155). -/
def State.retireStep (s : State) : Option State :=
  match s.retirePage with
  | some s' => some s'
  | none => s.retireOne

/-- The run states in which PLR retires (R154). -/
def RunState.retires : RunState → Bool
  | .running | .draining | .guarded => true
  | _ => false

/-- The retirement sweep of entry to STOPPED, bounded by the entries and pages there can be (R154, R158, R170). -/
def State.sweepRetired (fuel : Nat) (s : State) : State :=
  match fuel with
  | 0 => s
  | fuel + 1 =>
    match s.retireStep with
    | none => s
    | some s' => State.sweepRetired fuel s'

/-- BIF issues the writes up to and with the oldest that an issue command names, if it is of the kind named; the queue is
untouched when the oldest tracked write is of another kind (R157, notes/assumptions/6.md). -/
def State.issueThrough (s : State) (wanted : WriteTag → Bool) : State :=
  match s.bus.writes.dropWhile fun w => !w.tracked with
  | [] => s
  | w :: rest =>
    if wanted w.tag then
      let before := s.bus.writes.takeWhile fun w => !w.tracked
      (before.foldl (fun s _ => s.writeAheadIssued) s).issueWrite w rest
    else s

def WriteTag.isStatus : WriteTag → Bool
  | .resultStatus _ => true
  | _ => false

def WriteTag.isMark : WriteTag → Bool
  | .markValue _ => true
  | _ => false

end Sys2Proof.Machine
end

