-- ==== Sys2Proof/Machine/RunControl.lean ====
section
/-! DEFINITION. Run Control (09_run_control_and_the_guard_input): LOADING and its checks, the ways a run is brought to rest,
the guard input, RESUME and the resets. -/

namespace Sys2Proof.Machine

/-! ### Bringing heads and steps to rest (R20, R58, R100, R169) -/

/-- A HOMING head whose HOME is still held becomes OFFLINE, its held HOME dropped (R58). -/
def Head.homingDropped (x : Head) : Head :=
  { x with state := .offline, heldOrder := none, assigned := none, serving := none }

/-- What RUN directs one head to do on ABORT, entry to GUARDED and entry to FAULTED (R58, R100). -/
def State.headToRest (s : State) (h : HeadId) : State :=
  match (s.head h).state with
  | .moving => s.requestHalt h
  | .homing => if (s.head h).heldOrder = some .home then s.modHead h Head.homingDropped else s.requestHalt h
  | .descending | .settling | .landed => s.requestRaise h
  | _ => s

/-- Every step that is not DONE returns to PENDING, with a PARK's and a RELOAD's progress (R20). -/
def State.returnSteps (s : State) : State :=
  let s := ((s.window.filter fun e => e.phase ≠ .done).map (·.pos)).foldl State.returnStep s
  { s with park := none, reload := none }

/-- Heads and steps are brought to rest (R100, R169). -/
def State.bringToRest (s : State) : State := (allHeads.foldl State.headToRest s).returnSteps.stopPoll

/-- The end of a LOADING that did not complete: its reads are discarded, and EVU's re-read and pending list with them
(R167, R181). -/
def State.dropLoad (s : State) : State :=
  ((s.modRun fun r => { r with load := none }).modBus fun b =>
    { b with reads := b.reads.filter fun r => !r.purpose.isLoading }).dropReread

/-- RUN leaves a LOADING, if there is one. -/
def State.leaveLoad (s : State) : State := if s.run.state = .loading then s.dropLoad else s

/-- The run takes a new state with a resume target. -/
def State.setRun (s : State) (st : RunState) (target : Option ResumeTarget) : State :=
  s.modRun fun r => { r with state := st, resume := target }

/-! ### STOPPED (R170) -/

/-- An entry to STOPPED or FAULTED at this moment would end a LOADING (R170, R171). -/
def RunControl.endsLoad (r : RunControl) : Bool :=
  r.state == .loading || (r.state == .guarded && r.resume == some .stoppedNoWriteBack)

/-- RUN enters STOPPED: the queue is issued, so that every handed result has been issued before STOPPED (R21,
notes/assumptions/45.md), and then the sweep, the write-back unless the entry ends a LOADING or the plan end has made it, and the
event (R170, R156). -/
def State.enterStopped (s : State) : State :=
  let endsLoad := s.run.endsLoad
  let s := s.leaveLoad.stopPoll.issueQueue.sweepRetired 64
  let s := if endsLoad || s.run.planEndHeld || s.due.planEnd then s else s.writeBack
  ((s.modRun fun r => { r with state := .stopped, resume := none, planEndHeld := false }).modDue
    fun u => { u with planEnd := false }).setEvent .stopped

/-! ### FAULTED (R171) -/

/-- The result writes handed and not yet issued are lost (R21). -/
def State.dropResults (s : State) : State :=
  s.modBus fun b => { b with writes := b.writes.filter fun w =>
    match w.tag with | .resultItems _ | .resultStatus _ => false | _ => true }

/-- PLR discards the window, its page list and the reads in flight (R21, R160). -/
def State.discardWindow (s : State) : State := ({ s with window := [] }.dropResults).endFetch

/-- RUN enters FAULTED; a part already FAULTED changes no state (R171). Heads still at work are directed to rest at the end of
a LOADING that fails, too (R100, R171, notes/assumptions/47.md). -/
def State.enterFaulted (s : State) : State :=
  if s.run.state = .faulted then s
  else
    let endsLoad := s.run.endsLoad
    let s := s.leaveLoad.bringToRest.discardWindow
    let s := if endsLoad then s else s.writeBack
    ((s.modRun fun r => { r with state := .faulted, resume := none, planEndHeld := false }).modDue
      fun u => { u with planEnd := false }).setEvent .faulted

/-! ### Guard trips (R173) -/

/-- The resume target a trip records, none where it does not enter GUARDED (R173). -/
def RunState.tripTarget : RunState → Option ResumeTarget
  | .running => some .running
  | .draining => some .draining
  | .stopped => some .stopped
  | .loading => some .stoppedNoWriteBack
  | _ => none

/-- A guard trip: GUARD_OPEN in every state; from RUNNING, DRAINING, STOPPED and LOADING a GUARD_TRIP record and GUARDED
(R173). GUARD_TRIP is submitted while the part is still in the state left, so the end of a LOADING discards what it put on the
pending list (R178, R181). GUARD_OPEN is set before it (notes/assumptions/53.md). -/
def State.guardTrip (s : State) : State :=
  let s := s.setEvent .guardOpen
  match s.run.state.tripTarget with
  | none => s
  | some target =>
    let left := s.run.state.code
    ((s.submitPart .guardTrip none 0 (BitVec.ofNat 32 left)).leaveLoad.bringToRest).setRun .guarded (some target)

/-- The filtered guard level takes a new value; open is a trip (R172). -/
def State.guardChange (s : State) (isOpen : Bool) : State :=
  let s := s.modRun fun r => { r with guardOpen := isOpen, guardTimer := none }
  if isOpen then s.guardTrip else s

/-- A sampled guard pin level (R172). -/
def State.guardSample (s : State) (high : Bool) : State :=
  let s := s.modRun fun r => { r with guardPin := high }
  let raw := s.run.guardRaw
  if s.run.guardCode = 0 then
    if raw = s.run.guardOpen then s.modRun fun r => { r with guardTimer := none } else s.guardChange raw
  else s.modRun fun r =>
    { r with guardTimer := if raw = r.guardOpen then none else if r.guardTimer.isSome then r.guardTimer else some 0 }

/-- The guard filter timer reaches the filter time (R172). -/
def State.guardFilterExpires (s : State) : State :=
  if s.run.guardTimer.isSome then s.guardChange s.run.guardRaw else s

/-! ### START and LOADING (R165) -/

/-- START: PLR ends its work, the control block address is recorded and its sixteen reads are requested (R165). The page list
is emptied here for good, also where this LOADING fails or is abandoned (R160, R165, notes/assumptions/49.md). -/
def State.beginLoad (s : State) : State :=
  let cba : Addr := s.regs.cbaHi ++ s.regs.cbaLo
  let s := { s with window := [], park := none, reload := none }.endFetch
  s.modRun fun r =>
    { r with
      state := .loading
      resume := none
      load := some { cba := cba, block := 0, remaining := 16, writesAhead := s.bus.writes.length } }

/-- The sixteen reads of LOADING (R165). -/
def State.requestBlock (s : State) (cba : Addr) : State :=
  (List.range 16).foldl (fun s i => s.pushRead (.loading i) (cba + BitVec.ofNat 64 (128 * i))) s

/-! ### The checks of LOADING (R166) -/

def loadWindow (b : ControlBlock) : Option (Addr × Addr) := some (cbWindowBase b, cbWindowLimit b)

/-- Check 5: the cursor (R142). -/
def cursorValid (b : ControlBlock) : Bool :=
  cbCursorPage b != 0 && pageAligned (cbCursorPage b) && inWindow (loadWindow b) (cbCursorPage b) Config.pageBytes
    && decide (cbCursorIndex b ≤ 31)

/-- Check 6: the fault log section (R181). The overlap with the control block takes addresses as plain numbers: of a block that reaches
over the end of the address space, the wrapped bytes do not count (notes/assumptions/50.md). -/
def logValid (cba : Addr) (b : ControlBlock) : Bool :=
  let n := cbLogSize b
  let base := cbLogBase b
  decide (4 ≤ n ∧ n ≤ 12) && decide (base.toNat % 32 = 0)
    && inWindow (loadWindow b) base (32 * 2 ^ n)
    && decide (base.toNat + 32 * 2 ^ n ≤ cba.toNat ∨ cba.toNat + Config.blockBytes ≤ base.toNat)
    && decide ((cbLogWrite b - cbLogRead b).toNat ≤ 2 ^ n)

/-- A side's work area is in range (R26). -/
def areaValid (w : Nat) (a : WorkArea) : Bool :=
  decide (a.xmax + 1 ≤ 64 * w ∧ a.xmax ≤ 1000000 ∧ a.ymax ≤ 1000000)

/-- Check 7: band width, margin and work areas (R26). -/
def geometryValid (b : ControlBlock) : Bool :=
  decide (5000 ≤ cbWidth b ∧ cbWidth b ≤ 50000 ∧ cbMargin b ≤ 7) && areaValid (cbWidth b) (cbArea b).top
    && areaValid (cbWidth b) (cbArea b).bottom

/-- Two neighbouring homes are far enough apart (R54). -/
def homesApart (b : ControlBlock) (g h : HeadId) : Bool :=
  decide (bandOf (cbWidth b) (cbHomeX b g) + 2 * cbMargin b + 1 ≤ bandOf (cbWidth b) (cbHomeX b h))

/-- Check 11: the head table (R54). -/
def headsValid (b : ControlBlock) : Bool :=
  (allHeads.all fun h =>
    decide (cbTouches b h ≤ Config.maxTouches ∧ cbWearLimit b h ≤ Config.maxTouches ∧ cbLead b h ≤ Config.maxLead))
    && homesApart b 0 1 && homesApart b 1 2 && homesApart b 2 3
    && homesApart b 4 5 && homesApart b 5 6 && homesApart b 6 7

/-- Check 12: the initial transforms with their valid flag set (R26). -/
def transformsValid (b : ControlBlock) : Bool :=
  [0, 1, 2, 3].all fun g => [Side.top, Side.bottom].all fun d =>
    let t := cbTransform b g d
    !t.valid || t.inBounds

/-- Check k of LOADING passes; check 2, the reads, is judged as they end (R166). -/
def loadCheck (cba : Addr) (b : ControlBlock) (k : Nat) : Bool :=
  match k with
  | 1 => decide (cba.toNat % 64 = 0)
  | 3 => cbSignature b == Config.blockSignature && cbVersion b == Config.layoutVersion
  | 4 => decide ((cbWindowBase b).toNat ≤ (cbWindowLimit b).toNat)
  | 5 => cursorValid b
  | 6 => logValid cba b
  | 7 => geometryValid b
  | 8 => limitsValid b
  | 9 => complianceValid b
  | 10 => decide (cbContactCode b ≤ 7 ∧ cbGuardCode b ≤ 7)
  | 11 => headsValid b
  | 12 => transformsValid b
  | _ => true

/-- The number of the first failed check of LOADING, none when every check passes (R166). -/
def loadFailure (cba : Addr) (b : ControlBlock) : Option Nat :=
  ((List.range 12).map (· + 1)).find? fun k => !loadCheck cba b k

/-- The log a failed LOADING read takes its CONFIG_INVALID record (R185). -/
def State.recordInvalid (s : State) (l : Load) (k : Nat) : State :=
  let b := l.block
  let usable := [1, 3, 4, 6].all (loadCheck l.cba b)
  if usable && !s.evu.overflow then
    if (cbLogWrite b - cbLogRead b).toNat < 2 ^ cbLogSize b then
      let f := s.stamp ⟨.configInvalid, none, none, 0, none, 0, BitVec.ofNat 32 k⟩
      ((s.pushWrite .faultRecord (logSlot (cbLogBase b) (cbLogSize b) (cbLogWrite b)) 32 (faultBytes f)).pushWrite .logIndex
        (l.cba + 0x034) 4 ((cbLogWrite b + 1).setWidth 256)).setEvent .faultLogged
    else s.setOverflow
  else s

/-- LOADING fails on check k of the block it read (R166, R185). -/
def State.failLoad (s : State) (l : Load) (k : Nat) : State := (s.recordInvalid l k).enterFaulted

/-- LOADING fails on its address or on a read, with no record (R166 checks 1 and 2, R185). -/
def State.failLoadUnread (s : State) : State := s.enterFaulted

/-! ### Completion of LOADING (R167) -/

/-- HDT takes a head's values; a change of the band geometry makes the head OFFLINE (R54). -/
def Head.loaded (x : Head) (b : ControlBlock) (h : HeadId) (moved : Bool) : Head :=
  let x :=
    { x with homeX := cbHomeX b h, homeY := cbHomeY b h, enabled := cbEnabled b h, wearLimit := cbWearLimit b h,
             touches := cbTouches b h, lead := cbLead b h }
  if moved then { x with state := .offline, held := none, assigned := none, serving := none } else x

/-- HDT takes the head table, and each worn flag is judged again, in head id order (R51, R54, notes/assumptions/46.md). -/
def State.loadHeads (s : State) (b : ControlBlock) : State :=
  let moved := decide (cbWidth b ≠ s.fru.width ∨ cbMargin b ≠ s.fru.margin)
  let s := if moved then { s with sides := ⟨false, false⟩ } else s
  allHeads.foldl (fun s h => (s.modHead h fun x => x.loaded b h moved).judgeWorn h none) s

/-- FRU takes its contents (R26). -/
def State.loadFrame (s : State) (b : ControlBlock) : State :=
  { s with fru := { transforms := cbTransforms b, keepOut := cbKeepOut b, area := cbArea b, width := cbWidth b,
                    margin := cbMargin b } }

/-- EVU takes the log; the overflow flag keeps its value (R181). -/
def State.loadLog (s : State) (b : ControlBlock) : State :=
  (s.modEvu fun v =>
    { v with inForce := true, base := cbLogBase b, sizeCode := cbLogSize b, writeIdx := cbLogWrite b,
             readIdx := cbLogRead b }).dropReread

/-- CTM takes its filter code for one head: a running timer restarts with a new code, and code 0 lets the level through at
once (R104). -/
def State.loadContact (s : State) (new : Bool) (code : Nat) (h : HeadId) : State :=
  let c := s.contact h
  if !new then s
  else if code = 0 then
    let s' := s.modContact h fun c => { c with timer := none }
    if c.raw = c.filtered then s' else s'.filteredChange h c.raw
  else s.modContact h fun c => { c with timer := c.timer.map fun _ => 0 }

/-- CTM takes its filter code (R104). -/
def State.loadContacts (s : State) (b : ControlBlock) : State :=
  let new := decide (cbContactCode b ≠ s.ctm.code)
  allHeads.foldl (fun s h => s.loadContact new (cbContactCode b) h)
    { s with ctm := { s.ctm with code := cbContactCode b } }

/-- PLR takes its state, and the header read of the cursor page is issued at once (R142, R148). -/
def State.loadPlan (s : State) (b : ControlBlock) : State :=
  (s.modPlr fun p =>
    { p with cursorAddr := cbCursorPage b, cursorIdx := cbCursorIndex b, pages := [], chain := none,
             pollInterval := clampPoll (cbPollInterval b), starvedArm := true, planLoaded := true }).issueHeader
    (cbCursorPage b) false 0

/-- RUN takes the guard filter code and polarity and enters RUNNING; with code 0 the filtered level follows at once (R172).
A raw level that differs from the filtered one starts the timer from 0 (notes/assumptions/31.md). -/
def State.loadGuard (s : State) (b : ControlBlock) : State :=
  let code := cbGuardCode b
  let s' := s.modRun fun r =>
    let r' := { r with guardCode := code, polarity := cbPolarity b, state := .running, resume := none, load := none }
    { r' with guardTimer :=
        if code = 0 ∨ r'.guardRaw = r'.guardOpen then none else some 0 }
  if code = 0 ∧ s'.run.guardRaw ≠ s'.run.guardOpen then s'.guardChange s'.run.guardRaw else s'

/-- LOADING completes: every block takes its contents on the one event (R167). Faults found together on it are submitted in
one order: HEAD_WORN and then CONTACT_IN_TRAVEL by head id, and GUARD_TRIP last (R182, notes/assumptions/46.md). A change of the
band geometry makes the heads OFFLINE before the contact levels follow a new code 0 (R54, R104, notes/assumptions/39.md). -/
def State.completeLoad (s : State) (l : Load) : State :=
  let b := l.block
  let s := (s.modBus fun u => { u with cba := l.cba, window := loadWindow b }).loadLog b
  let s := (s.loadHeads b).loadFrame b
  let s := (s.applyLimits b).loadContacts b
  (s.loadPlan b).loadGuard b

/-- Every lane has reached its reset state (R101, R167). -/
def State.lanesReady (s : State) : Bool := allHeads.all fun l => (s.lane l).resetRaise.isNone

/-- LOADING is judged once its last read has returned: it fails, completes, or waits for the lanes (R165-R167). -/
def State.judgeLoad (s : State) : State :=
  match s.run.load with
  | none => s
  | some l =>
    if s.run.state ≠ .loading ∨ l.remaining ≠ 0 then s
    else match loadFailure l.cba l.block with
      | some k => s.failLoad l k
      | none => if s.lanesReady then s.completeLoad l else s

/-- The writes requested before the START have been issued: the first of LOADING's reads follows them (R165). -/
def State.issueAhead (fuel : Nat) (s : State) : State :=
  match fuel with
  | 0 => s
  | fuel + 1 =>
    match s.run.load, s.bus.writes with
    | some l, w :: rest => if l.writesAhead = 0 then s else State.issueAhead fuel (s.issueWrite w rest)
    | _, _ => s

/-- One of LOADING's reads returns; after the last the block is judged (R165). -/
def State.loadReturn (s : State) (id i : Nat) (d : Block) : State :=
  let s := (s.issueAhead s.bus.writes.length).dropRead id
  (s.modRun fun r => { r with load := r.load.map fun l =>
    { l with block := ControlBlock.put l.block i d, remaining := l.remaining - 1, writesAhead := 0 } }).judgeLoad

/-! ### STOP, ABORT, RESUME (R168, R169, R174) -/

/-- A WAITING step returns to PENDING (R20). -/
def Entry.unwaited (e : Entry) : Entry := if e.phase = .waiting then Entry.fresh e.pos e.addr e.request else e

/-- A head that is still assigned to a WAITING step: LOST, with the HALT of its failed yield outstanding (R47, R79). -/
def State.lostWaiting (s : State) (x : Head) : Bool :=
  x.state == .lost && s.window.any fun e => e.phase == .waiting && decide (x.assigned = some e.pos)

/-- STOP in RUNNING: the WAITING steps return to PENDING, and a LOST head still assigned to one loses its assignment (R20,
R47, R168). -/
def State.drain (s : State) : State :=
  ({ s with
    window := s.window.map Entry.unwaited
    heads := s.heads.map fun x => if s.lostWaiting x then { x with assigned := none, serving := none } else x
    }.stopPoll).setRun .draining none

/-- ABORT, in LOADING too with the lane activity of R100 (R169, notes/assumptions/47.md). STOPPED is entered on this event, with the
results handed before issued on it (R21, R170, notes/assumptions/45.md). -/
def State.abort (s : State) : State := s.bringToRest.enterStopped

/-- RESUME to a target with the guard closed; a held plan end enters STOPPED (R174). -/
def State.resumeTo (s : State) (t : ResumeTarget) : State :=
  match t with
  | .running => if s.run.planEndHeld then s.enterStopped else s.setRun .running none
  | .draining => if s.run.planEndHeld then s.enterStopped else s.setRun .draining none
  | .stopped | .stoppedNoWriteBack => s.enterStopped

/-! ### The ends of a run (R156, R168) -/

/-- RUN takes a plan end (R156). -/
def State.takePlanEnd (s : State) : State :=
  match s.run.state with
  | .running | .draining => s.enterStopped
  | .guarded => (s.modRun fun r => { r with planEndHeld := true }).modDue fun u => { u with planEnd := false }
  | _ => s.modDue fun u => { u with planEnd := false }

/-- A head that holds DRAINING open (R168). -/
def HeadState.busyForDrain (st : HeadState) : Bool := st.atWork || st = .halting

/-- The end condition of DRAINING (R168). -/
def State.drained (s : State) : Bool :=
  (s.window.all fun e => e.phase == .pending || (e.phase == .done && e.written))
    && allHeads.all fun h => !(s.head h).state.busyForDrain

/-! ### Resets (R101, R176) -/

/-- Ticks until a lane has sent the untracked RAISE: after the frame being sent and its idle time (R84, R101, R176). -/
def Lane.resetTicks (l : Lane) : Nat :=
  let own := Config.frameTicks
  match l.resetRaise with
  | some n => if n ≤ own then n + Config.gapTicks + own else n
  | none =>
    match l.txTimer with
    | some t => (Config.frameTicks + Config.gapTicks - t) + own
    | none => own

/-- A lane at a soft reset: nothing outstanding, the untracked RAISE on its way (R101). -/
def Lane.softReset (l : Lane) : Lane :=
  { l with out := .free, pendingHalt := false, txTimer := none, resetRaise := some l.resetTicks }

/-- The raw levels of the contact inputs. -/
def State.rawContacts (s : State) : PerHead Bool := s.ctm.heads.map (·.raw)

/-- A soft reset: every block but ALC takes its reset values at once, and each lane begins its reset (R176). -/
def State.softReset (s : State) : State :=
  { State.resetFrom s.rawContacts s.run.guardPin s.run.resetHeld s.bus.msiEnable s.bus.nextRead s.bus.nextWrite s.choices
      s.pending with lanes := s.lanes.map Lane.softReset }

/-- A device reset: every item takes its reset value at once; RESET_N holds it there (R176). -/
def State.deviceReset (s : State) (cause : ResetCause) : State :=
  State.resetFrom s.rawContacts s.run.guardPin (s.run.resetHeld || cause = .resetN) s.bus.msiEnable s.bus.nextRead
    s.bus.nextWrite s.choices s.pending

/-- A lane's reset state at the end of the untracked RAISE's frame: the 2 µs of idle time follow it (R84, R88, R101). -/
def Lane.afterResetRaise : Lane := { Lane.atReset with txTimer := some Config.frameTicks }

/-- A lane has sent the untracked RAISE of a soft reset: it takes its reset state, and a LOADING waiting for the last lane
is judged (R101, R167). -/
def State.resetRaiseSent (s : State) (l : HeadId) : State :=
  if (s.lane l).resetRaise.isSome then (s.setLane l Lane.afterResetRaise).judgeLoad else s

/-- A contact input while RESET_N is held: the part stays in its reset state for the level read (R102, R176). -/
def State.heldContact (s : State) (h : HeadId) (made : Bool) : State := s.modContact h fun _ => Contact.atReset made

/-- The GUARD pin while RESET_N is held (R161, R176). -/
def State.heldGuard (s : State) (high : Bool) : State :=
  s.modRun fun r => { r with guardPin := high, guardTimer := if high then none else some 0 }

end Sys2Proof.Machine
end

