-- ==== Sys2Proof/Machine/FollowUp.lean ====
section
/-! DEFINITION. What follows a command on the same event. Each condition that the rules attach to "the same event" is tested in
turn and its effect taken, until none holds: entry to FAULTED, evaluations, the ends of LIFTING, HOME_SIDE and PARK moves,
the engine's take, activation and dispatch, retirement, the plan end, fetching and the end of DRAINING. -/

namespace Sys2Proof.Machine

/-- The fault taken on the event makes RUN enter FAULTED (R171). -/
def State.faultDue (s : State) : Option State :=
  if s.due.faulted then some ((s.modDue fun u => { u with faulted := false }).enterFaulted) else none

/-- An evaluation of a side is taken off the list and made. -/
def State.evaluateDue (s : State) (d : Side) : State :=
  (s.modDue fun u => match d with | .top => { u with evalTop := false } | .bottom => { u with evalBottom := false }).evaluate d

/-- An evaluation that the event has called for is made; of two, either may come first (R67). -/
def State.evalDue (s : State) : Option State :=
  match s.due.evalTop, s.due.evalBottom with
  | false, false => none
  | true, false => some (s.evaluateDue .top)
  | false, true => some (s.evaluateDue .bottom)
  | true, true =>
    let c := s.choose 2
    some (c.2.evaluateDue (if c.1 = 0 then .top else .bottom))

/-- A plan end that PLR reports (R156). -/
def State.planEndDue (s : State) : Option State := if s.due.planEnd then some s.takePlanEnd else none

/-- PLR retires in RUNNING, DRAINING and GUARDED (R154). -/
def State.retireDue (s : State) : Option State := if s.run.state.retires then s.retireStep else none

/-- DRAINING ends (R168). -/
def State.drainEnd (s : State) : Option State :=
  if s.run.state = .draining ∧ s.drained then some s.enterStopped else none

/-- The next thing that follows on the event; none when nothing does. Steps join the wait list, and are evaluated, one after
another (R67). -/
def State.followUp (s : State) : Option State :=
  match s.faultDue with
  | some t => some t
  | none =>
  match s.evalDue with
  | some t => some t
  | none =>
  match s.liftingEnd with
  | some t => some t
  | none =>
  match s.homingEnd with
  | some t => some t
  | none =>
  match s.parkStep with
  | some t => some t
  | none =>
  match s.engineTake with
  | some t => some t
  | none =>
  match s.retireDue with
  | some t => some t
  | none =>
  match s.planEndDue with
  | some t => some t
  | none =>
  match s.activateOne with
  | some t => some t
  | none =>
  match s.dispatchOne with
  | some t => some t
  | none =>
  match s.fetchStep with
  | some t => some t
  | none => s.drainEnd

/-- Everything that follows on the event. `fuel` bounds it: each of at most sixteen steps, eight heads, eight pages and
sixteen reads moves forward a few times on one event. -/
def settle (fuel : Nat) (s : State) : State :=
  match fuel with
  | 0 => s
  | fuel + 1 =>
    match s.followUp with
    | none => s
    | some s' => settle fuel s'

/-- The bound on what follows one event. -/
def followUps : Nat := 1000

/-- An event begins: nothing is due, and its run state is noted (R179). -/
def State.begin (s : State) : State := { s with due := { Due.none with runBefore := s.run.state } }

/-- An event ends with nothing due. -/
def State.finish (s : State) : State := { s with due := Due.none }

/-- One event: its own effect and everything that follows on it. While RESET_N is held the part stays as it is (R176). -/
def State.event (s : State) (f : State → State) : State :=
  if s.run.resetHeld then s else (settle followUps (f s.begin)).finish

/-- An event whose effect nothing follows. While RESET_N is held the part stays as it is (R176). -/
def State.plain (s : State) (f : State → State) : State :=
  if s.run.resetHeld then s else (f s.begin).finish

end Sys2Proof.Machine
end

