-- ==== Sys2Proof/Machine/Commands.lean ====
section
/-! DEFINITION. The host's register accesses: the COMMAND values (R164) and the writes to the other registers (R163, R186-R188,
R195). -/

namespace Sys2Proof.Machine

/-! ### Commands (R164) -/

/-- A COMMAND write is refused: COMMAND_REFUSED is set and nothing else changes (R164). -/
def State.refuse (s : State) : State := s.plain fun s => s.setEvent .commandRefused

/-- The run states in which START and writes to the address registers are taken (R163, R164). -/
def RunState.atRest : RunState → Bool
  | .idle | .stopped | .faulted => true
  | _ => false

/-- START's own effect: LOADING with its sixteen reads, or FAULTED at once for a misaligned address (R165, R166). -/
def State.startLoading (s : State) : State :=
  let cba : Addr := s.regs.cbaHi ++ s.regs.cbaLo
  if cba.toNat % 64 = 0 then s.beginLoad.requestBlock cba else s.beginLoad.failLoadUnread

/-- START (R165). -/
def State.commandStart (s : State) : State :=
  if s.run.state.atRest then s.event State.startLoading else s.refuse

/-- STOP (R168). -/
def State.commandStop (s : State) : State := if s.run.state = .running then s.event State.drain else s.refuse

/-- The run states in which ABORT is taken (R164). -/
def RunState.abortable : RunState → Bool
  | .loading | .running | .draining | .guarded => true
  | _ => false

/-- ABORT (R169). -/
def State.commandAbort (s : State) : State := if s.run.state.abortable then s.event State.abort else s.refuse

/-- RESUME, taken in GUARDED with the filtered guard level closed (R174). -/
def State.commandResume (s : State) : State :=
  match s.run.state, s.run.guardOpen, s.run.resume with
  | .guarded, false, some t => s.event fun s => s.resumeTo t
  | _, _, _ => s.refuse

/-- CLEAR_OVERFLOW, taken in every state (R184). -/
def State.commandClearOverflow (s : State) : State := s.plain fun s => s.modEvu fun v => { v with overflow := false }

/-- RESET, taken in every state (R176). -/
def State.commandReset (s : State) : State := if s.run.resetHeld then s else s.softReset

/-- A COMMAND write of any value (R164). -/
def State.commandWrite (s : State) (v : Word) : State :=
  match v.toNat with
  | 1 => s.commandStart
  | 2 => s.commandStop
  | 3 => s.commandAbort
  | 4 => s.commandResume
  | 5 => s.commandClearOverflow
  | 6 => s.commandReset
  | _ => s.refuse

/-! ### The other registers (R163, R186, R188, R195) -/

/-- A write to CBA_LO, taken at rest and ignored otherwise (R163). -/
def State.writeCbaLo (s : State) (v : Word) : State :=
  if s.run.state.atRest then s.plain fun s => { s with regs := { s.regs with cbaLo := v } } else s

/-- A write to CBA_HI, taken at rest and ignored otherwise (R163). -/
def State.writeCbaHi (s : State) (v : Word) : State :=
  if s.run.state.atRest then s.plain fun s => { s with regs := { s.regs with cbaHi := v } } else s

/-- A write to EVENTS clears each flag written as 1 (R186). -/
def State.writeEvents (s : State) (v : Word) : State :=
  s.plain fun s => s.putEvents (s.evu.events &&& ~~~(v.setWidth 8)) s.evu.enables

/-- A write to EVENT_ENABLE replaces the enables (R187, R188). -/
def State.writeEnables (s : State) (v : Word) : State := s.plain fun s => s.putEvents s.evu.events (v.setWidth 8)

/-- A write of `width` bytes at an offset of the region: a 4-byte write to a register that takes writes, and otherwise
ignored (R163, R195). -/
def State.registerWrite (s : State) (offset : BitVec 12) (width : Nat) (v : BitVec 64) : State :=
  if width ≠ 4 then s
  else match offset.toNat with
    | 0x004 => s.writeCbaLo (v.setWidth 32)
    | 0x008 => s.writeCbaHi (v.setWidth 32)
    | 0x00C => s.commandWrite (v.setWidth 32)
    | 0x014 => s.writeEvents (v.setWidth 32)
    | 0x018 => s.writeEnables (v.setWidth 32)
    | _ => s

/-! ### The commands -/

/-- START (R164, R165). -/
def execStart (s : State) : Host.Outcome State Fault Refusal := .next s.commandStart

/-- STOP (R164, R168). -/
def execStop (s : State) : Host.Outcome State Fault Refusal := .next s.commandStop

/-- ABORT (R164, R169). -/
def execAbort (s : State) : Host.Outcome State Fault Refusal := .next s.commandAbort

/-- RESUME (R164, R174). -/
def execResume (s : State) : Host.Outcome State Fault Refusal := .next s.commandResume

/-- CLEAR_OVERFLOW (R164, R184). -/
def execClearOverflow (s : State) : Host.Outcome State Fault Refusal := .next s.commandClearOverflow

/-- RESET (R164, R176). -/
def execReset (s : State) : Host.Outcome State Fault Refusal := .next s.commandReset

/-- UNKNOWN_COMMAND: a COMMAND write of a value that names no command is refused (R164). -/
def execUnknownCommand (v : Word) (s : State) : Host.Outcome State Fault Refusal := .next (s.commandWrite v)

/-- CBA_LO_WRITE (R163). -/
def execCbaLoWrite (v : Word) (s : State) : Host.Outcome State Fault Refusal := .next (s.writeCbaLo v)

/-- CBA_HI_WRITE (R163). -/
def execCbaHiWrite (v : Word) (s : State) : Host.Outcome State Fault Refusal := .next (s.writeCbaHi v)

/-- EVENTS_WRITE (R163, R186). -/
def execEventsWrite (v : Word) (s : State) : Host.Outcome State Fault Refusal := .next (s.writeEvents v)

/-- EVENT_ENABLE_WRITE (R187, R188). -/
def execEventEnableWrite (v : Word) (s : State) : Host.Outcome State Fault Refusal := .next (s.writeEnables v)

/-- REGISTER_WRITE_OTHER (R163, R195). -/
def execRegisterWriteOther (offset : BitVec 12) (width : Nat) (v : BitVec 64) (s : State) :
    Host.Outcome State Fault Refusal := .next (s.registerWrite offset width v)

end Sys2Proof.Machine
end

