-- ==== Sys2Proof/Machine/HostAccess.lean ====
section
/-! DEFINITION. The host-memory events: read returns and read errors (R144), the poll and stall timers (R150, R66), and the
tracked writes that BIF issues (R14, R24). -/

namespace Sys2Proof.Machine

/-! ### Read returns -/

/-- A header read returns: acted on, or discarded unexamined, by the run state (R146, R159). -/
def State.headerRead (s : State) (r : HostRead) (poll : Bool) (d : Block) : State :=
  let s := s.dropRead r.id
  if s.run.state.takesReads && r.generation == s.plr.generation then s.headerReturn poll d else s

/-- A record read returns: acted on, or discarded unexamined, by the run state (R149, R159). -/
def State.recordRead (s : State) (r : HostRead) (d : Block) : State :=
  if s.run.state.takesReads && r.generation == s.plr.generation then s.recordReturn r.id d else s.discardRecord r.id

/-- The re-read of the log's read index returns (R183). -/
def State.logRead (s : State) (id : Nat) (v : Word) : State :=
  let s := s.dropRead id
  if s.evu.reread = some id then s.finishReread v else s

/-- What the read in flight with an identity is for. -/
def State.openPurpose (s : State) (id : Nat) : Option ReadPurpose := (s.openRead id).map (·.purpose)

/-- LOADING_READ_RETURN (R165). -/
def execLoadingReadReturn (id : Nat) (d : Block) (s : State) : Host.Outcome State Fault Refusal :=
  match s.openPurpose id with
  | some (.loading i) => .next (s.event fun s => s.loadReturn id i d)
  | _ => .next s

/-- HEADER_READ_RETURN (R146). -/
def execHeaderReadReturn (id : Nat) (d : Block) (s : State) : Host.Outcome State Fault Refusal :=
  match s.openRead id with
  | some r =>
    match r.purpose with
    | .header poll => .next (s.event fun s => s.headerRead r poll d)
    | _ => .next s
  | none => .next s

/-- RECORD_READ_RETURN (R149). -/
def execRecordReadReturn (id : Nat) (d : Block) (s : State) : Host.Outcome State Fault Refusal :=
  match s.openRead id with
  | some r => if r.purpose.isRecord then .next (s.event fun s => s.recordRead r d) else .next s
  | none => .next s

/-- RELOAD_READ_RETURN (R17). -/
def execReloadReadReturn (id : Nat) (d : Block) (s : State) : Host.Outcome State Fault Refusal :=
  match s.openPurpose id with
  | some (.reload off) => .next (s.event fun s => (s.dropRead id).reloadReturn id off d)
  | _ => .next s

/-- LOG_REREAD_RETURN (R183). -/
def execLogRereadReturn (id : Nat) (v : Word) (s : State) : Host.Outcome State Fault Refusal :=
  match s.openPurpose id with
  | some .logIndex => .next (s.event fun s => s.logRead id v)
  | _ => .next s

/-! ### Read errors (R144) -/

/-- The step a failed read belongs to, and the sequence its record names (R179). -/
def State.errorNames (s : State) (r : HostRead) : Option Pos × Word :=
  match r.purpose with
  | .record p => (some p, p.seq)
  | .header _ => (none, (s.fetchPage.map (·.seq)).getD 0)
  | _ => (none, 0)

/-- A read ends in an access error: LOADING fails, or MEMORY_WINDOW is submitted and RUN is to enter FAULTED; for the log's
re-read EVU sets overflow first (R144, R166, R183). -/
def State.readError (s : State) (r : HostRead) : State :=
  match r.purpose with
  | .loading _ => (s.issueAhead s.bus.writes.length).failLoadUnread
  | _ =>
    let names := s.errorNames r
    let s := s.dropRead r.id
    let s := if r.purpose = .logIndex ∧ s.evu.reread = some r.id then s.failReread else s
    (s.submit ⟨.memoryWindow, none, none, names.2, stepIdx names.1, 2, r.addr.setWidth 32⟩).modDue
      fun u => { u with faulted := true }

/-- READ_ERROR_COMPLETION (R144). -/
def execReadErrorCompletion (id : Nat) (s : State) : Host.Outcome State Fault Refusal :=
  match s.openRead id with
  | some r => .next (s.event fun s => s.readError r)
  | none => .next s

/-- A read has gone out: one of LOADING's has not while older writes wait (R165). -/
def State.readIssued (s : State) (r : HostRead) : Bool :=
  !r.purpose.isLoading || match s.run.load with | some l => l.writesAhead == 0 | none => true

/-- ACCESS_ERROR_TIMEOUT: no completion within 50 ms of the read's issue (R144). -/
def execAccessErrorTimeout (id : Nat) (s : State) : Host.Outcome State Fault Refusal :=
  match s.openRead id with
  | some r => if s.readIssued r then .next (s.event fun s => s.readError r) else .next s
  | none => .next s

/-! ### Timers -/

/-- POLL_TIMER_EXPIRY (R150). -/
def execPollTimerExpiry (s : State) : Host.Outcome State Fault Refusal := .next (s.event State.pollExpires)

/-- The stall timer of a waiting step reaches its limit: BLOCKED, with a STEP_STALLED record (R11, R66). The fault is submitted before
the step's result is handed, so that the writes of its record stand first (notes/assumptions/57.md). -/
def State.stalled (s : State) (p : Pos) : State :=
  match s.entry? p with
  | none => s
  | some e =>
    match e.phase, e.stall with
    | .waiting, some t =>
      (s.submit ⟨.stepStalled, none, some (e.sideOf .a), p.seq, some p.idx, 0, BitVec.ofNat 32 t.limit⟩).endWaiting e .blocked
    | _, _ => s

/-- STALL_TIMER_EXPIRY (R66). -/
def execStallTimerExpiry (seq : Word) (idx : Nat) (s : State) : Host.Outcome State Fault Refusal :=
  .next (s.event fun s => s.stalled ⟨seq, idx⟩)

/-! ### Writes issued -/

/-- RESULT_STATUS_ISSUED (R24). -/
def execResultStatusIssued (s : State) : Host.Outcome State Fault Refusal :=
  .next (s.event fun s => s.issueThrough WriteTag.isStatus)

/-- MARK_VALUE_ISSUED (R14). -/
def execMarkValueIssued (s : State) : Host.Outcome State Fault Refusal :=
  .next (s.event fun s => s.issueThrough WriteTag.isMark)

end Sys2Proof.Machine
end

