-- ==== Sys2Proof/Machine/Inputs.lean ====
section
/-! DEFINITION. The resets and the inputs: RESET_N and PCIe resets (R176), the message enable (R189), the GUARD pin (R172), the
contact sense inputs (R103) and the landing windows (R106). -/

namespace Sys2Proof.Machine

/-- DEVICE_RESET (R176). -/
def execDeviceReset (cause : ResetCause) (s : State) : Host.Outcome State Fault Refusal := .next (s.deviceReset cause)

/-- RESET_N_RELEASE: the held reset ends, and the part is in its reset state (R176). -/
def execResetNRelease (s : State) : Host.Outcome State Fault Refusal :=
  .next (s.modRun fun r => { r with resetHeld := false })

/-- MSI_ENABLE_CHANGE: the input takes a level, with no event and no message (R189). -/
def execMsiEnableChange (on : Bool) (s : State) : Host.Outcome State Fault Refusal :=
  .next (s.modBus fun b => { b with msiEnable := on })

/-- GUARD_INPUT_CHANGE: a sampled pin level; with filter code 0 the filtered level follows it at once (R172). -/
def execGuardInputChange (high : Bool) (s : State) : Host.Outcome State Fault Refusal :=
  .next (if s.run.resetHeld then s.heldGuard high
    else if s.run.guardCode = 0 then s.event fun s => s.guardSample high
    else s.plain fun s => s.guardSample high)

/-- GUARD_FILTER_EXPIRY (R172, R173). -/
def execGuardFilterExpiry (s : State) : Host.Outcome State Fault Refusal :=
  .next (s.event State.guardFilterExpires)

/-- CONTACT_SENSE_CHANGE: a sampled level; with filter code 0 the filtered level follows it at once (R103). -/
def execContactSenseChange (h : HeadId) (made : Bool) (s : State) : Host.Outcome State Fault Refusal :=
  .next (if s.run.resetHeld then s.heldContact h made
    else if s.ctm.code = 0 then s.event fun s => s.contactSample h made
    else s.plain fun s => s.contactSample h made)

/-- CONTACT_FILTER_EXPIRY (R103). -/
def execContactFilterExpiry (h : HeadId) (s : State) : Host.Outcome State Fault Refusal :=
  .next (s.event fun s => s.contactFilterExpires h)

/-- LANDING_WINDOW_EXPIRY (R106, R107). -/
def execLandingWindowExpiry (h : HeadId) (s : State) : Host.Outcome State Fault Refusal :=
  .next (s.event fun s => s.bounce h)

end Sys2Proof.Machine
end

