-- ==== Sys2Proof/Machine/LaneEvents.lean ====
section
/-! DEFINITION. The events of the axis lanes: the eight replies (R87, R91), the receive line (R85), order timers (R93), pending
HALTs (R84) and the untracked RAISE of a soft reset (R101). -/

namespace Sys2Proof.Machine

/-- REACHED (R94, R44). -/
def execReached (l : HeadId) (tag : Byte) (x y : Word) (s : State) : Host.Outcome State Fault Refusal :=
  .next (s.event fun s => s.receiveReply l .reached tag x y)

/-- TOUCHED (R95, R105). -/
def execTouched (l : HeadId) (tag : Byte) (travel : Word) (s : State) : Host.Outcome State Fault Refusal :=
  .next (s.event fun s => s.receiveReply l .touched tag travel 0)

/-- BOTTOMED (R107). -/
def execBottomed (l : HeadId) (tag : Byte) (s : State) : Host.Outcome State Fault Refusal :=
  .next (s.event fun s => s.receiveReply l .bottomed tag 0 0)

/-- RAISED (R45, R111). -/
def execRaised (l : HeadId) (tag : Byte) (s : State) : Host.Outcome State Fault Refusal :=
  .next (s.event fun s => s.receiveReply l .raised tag 0 0)

/-- HOMED (R57). -/
def execHomed (l : HeadId) (tag : Byte) (x y : Word) (s : State) : Host.Outcome State Fault Refusal :=
  .next (s.event fun s => s.receiveReply l .homed tag x y)

/-- HALTED (R46, R98). -/
def execHalted (l : HeadId) (tag : Byte) (x y : Word) (s : State) : Host.Outcome State Fault Refusal :=
  .next (s.event fun s => s.receiveReply l .halted tag x y)

/-- REFUSED (R96). -/
def execRefused (l : HeadId) (tag : Byte) (code : Word) (s : State) : Host.Outcome State Fault Refusal :=
  .next (s.event fun s => s.receiveReply l .refused tag code 0)

/-- FAULT (R97). -/
def execFault (l : HeadId) (tag : Byte) (code : Word) (s : State) : Host.Outcome State Fault Refusal :=
  .next (s.event fun s => s.receiveReply l .fault tag code 0)

/-- DAMAGED_FRAME (R85). -/
def execDamagedFrame (l : HeadId) (f : BitVec 96) (s : State) : Host.Outcome State Fault Refusal :=
  .next (s.event fun s => s.receiveFrame l f)

/-- FRAME_GAP_TIMEOUT (R85). -/
def execFrameGapTimeout (l : HeadId) (s : State) : Host.Outcome State Fault Refusal :=
  .next (s.event fun s => s.frameGap l)

/-- RECEIVER_IDLE_EXPIRY (R85). -/
def execReceiverIdleExpiry (l : HeadId) (s : State) : Host.Outcome State Fault Refusal :=
  .next (s.plain fun s => s.receiverIdle l)

/-- LANE_START_BYTE (R85). -/
def execLaneStartByte (l : HeadId) (s : State) : Host.Outcome State Fault Refusal :=
  .next (s.plain fun s => s.startByteArrives l)

/-- ORDER_TIMEOUT (R93). -/
def execOrderTimeout (l : HeadId) (s : State) : Host.Outcome State Fault Refusal :=
  .next (s.event fun s => s.expireOrder l)

/-- PENDING_HALT_SEND (R84, R90). -/
def execPendingHaltSend (l : HeadId) (s : State) : Host.Outcome State Fault Refusal :=
  .next (s.event fun s => s.sendPendingHalt l)

/-- SOFT_RESET_RAISE_SENT (R101, R167). -/
def execSoftResetRaiseSent (l : HeadId) (s : State) : Host.Outcome State Fault Refusal :=
  .next (s.event fun s => s.resetRaiseSent l)

end Sys2Proof.Machine
end

