-- ==== Sys2Proof/Machine/Measuring.lean ====
section
/-! DEFINITION. The events of the Measurement Engine: the settle's end (R122), ADC samples (R123), the compliance comparator
(R124) and the end of a charge (R125). -/

namespace Sys2Proof.Machine

/-- SETTLE_EXPIRY (R122, R125). -/
def execSettleExpiry (s : State) : Host.Outcome State Fault Refusal := .next (s.event State.settled)

/-- ADC_SAMPLE (R123). -/
def execAdcSample (v : Int) (s : State) : Host.Outcome State Fault Refusal := .next (s.event fun s => s.sample v)

/-- COMPLIANCE_FLAG (R124, R125). -/
def execComplianceFlag (s : State) : Host.Outcome State Fault Refusal := .next (s.event State.compliance)

/-- CHARGE_CROSSING (R125). -/
def execChargeCrossing (capture : Tick) (s : State) : Host.Outcome State Fault Refusal :=
  .next (s.event fun s => s.crossing capture)

/-- CHARGE_TIMEOUT (R125). -/
def execChargeTimeout (s : State) : Host.Outcome State Fault Refusal := .next (s.event fun s => s.endCharge none)

end Sys2Proof.Machine
end

