-- ==== Sys2Proof/Machine/Dispatch.lean ====
section
/-! DEFINITION. The meaning of every command, one arm per row of spec/opcode_table.json. -/

namespace Sys2Proof.Machine

def exec (i : Instr) (s : State) : Host.Outcome State Fault Refusal :=
  match i with
  | .start => Sys2Proof.Machine.execStart s
  | .stop => Sys2Proof.Machine.execStop s
  | .abort => Sys2Proof.Machine.execAbort s
  | .resume => Sys2Proof.Machine.execResume s
  | .clearOverflow => Sys2Proof.Machine.execClearOverflow s
  | .reset => Sys2Proof.Machine.execReset s
  | .unknownCommand v => Sys2Proof.Machine.execUnknownCommand v s
  | .cbaLoWrite v => Sys2Proof.Machine.execCbaLoWrite v s
  | .cbaHiWrite v => Sys2Proof.Machine.execCbaHiWrite v s
  | .eventsWrite v => Sys2Proof.Machine.execEventsWrite v s
  | .eventEnableWrite v => Sys2Proof.Machine.execEventEnableWrite v s
  | .registerWriteOther o w v => Sys2Proof.Machine.execRegisterWriteOther o w v s
  | .deviceReset c => Sys2Proof.Machine.execDeviceReset c s
  | .msiEnableChange on => Sys2Proof.Machine.execMsiEnableChange on s
  | .guardFilterExpiry => Sys2Proof.Machine.execGuardFilterExpiry s
  | .contactFilterExpiry h => Sys2Proof.Machine.execContactFilterExpiry h s
  | .landingWindowExpiry h => Sys2Proof.Machine.execLandingWindowExpiry h s
  | .settleExpiry => Sys2Proof.Machine.execSettleExpiry s
  | .adcSample v => Sys2Proof.Machine.execAdcSample v s
  | .complianceFlag => Sys2Proof.Machine.execComplianceFlag s
  | .chargeCrossing c => Sys2Proof.Machine.execChargeCrossing c s
  | .chargeTimeout => Sys2Proof.Machine.execChargeTimeout s
  | .reached l t x y => Sys2Proof.Machine.execReached l t x y s
  | .touched l t d => Sys2Proof.Machine.execTouched l t d s
  | .bottomed l t => Sys2Proof.Machine.execBottomed l t s
  | .raised l t => Sys2Proof.Machine.execRaised l t s
  | .homed l t x y => Sys2Proof.Machine.execHomed l t x y s
  | .halted l t x y => Sys2Proof.Machine.execHalted l t x y s
  | .refused l t c => Sys2Proof.Machine.execRefused l t c s
  | .fault l t c => Sys2Proof.Machine.execFault l t c s
  | .damagedFrame l f => Sys2Proof.Machine.execDamagedFrame l f s
  | .frameGapTimeout l => Sys2Proof.Machine.execFrameGapTimeout l s
  | .receiverIdleExpiry l => Sys2Proof.Machine.execReceiverIdleExpiry l s
  | .orderTimeout l => Sys2Proof.Machine.execOrderTimeout l s
  | .pendingHaltSend l => Sys2Proof.Machine.execPendingHaltSend l s
  | .softResetRaiseSent l => Sys2Proof.Machine.execSoftResetRaiseSent l s
  | .loadingReadReturn id d => Sys2Proof.Machine.execLoadingReadReturn id d s
  | .headerReadReturn id d => Sys2Proof.Machine.execHeaderReadReturn id d s
  | .recordReadReturn id d => Sys2Proof.Machine.execRecordReadReturn id d s
  | .reloadReadReturn id d => Sys2Proof.Machine.execReloadReadReturn id d s
  | .logRereadReturn id v => Sys2Proof.Machine.execLogRereadReturn id v s
  | .readErrorCompletion id => Sys2Proof.Machine.execReadErrorCompletion id s
  | .accessErrorTimeout id => Sys2Proof.Machine.execAccessErrorTimeout id s
  | .pollTimerExpiry => Sys2Proof.Machine.execPollTimerExpiry s
  | .stallTimerExpiry seq idx => Sys2Proof.Machine.execStallTimerExpiry seq idx s
  | .resultStatusIssued => Sys2Proof.Machine.execResultStatusIssued s
  | .markValueIssued => Sys2Proof.Machine.execMarkValueIssued s
  | .contactSenseChange h m => Sys2Proof.Machine.execContactSenseChange h m s
  | .guardInputChange high => Sys2Proof.Machine.execGuardInputChange high s
  | .laneStartByte l => Sys2Proof.Machine.execLaneStartByte l s
  | .resetNRelease => Sys2Proof.Machine.execResetNRelease s

end Sys2Proof.Machine
end

