-- ==== Sys2Proof/Machine/Time.lean ====
section
/-! DEFINITION. The Time Base (R177): one 10 ns tick, the strobes it gives, and the timers that have run out. The part goes on
so when no command waits (notes/assumptions/2.md). -/

namespace Sys2Proof.Machine

/-! ### Counting on the strobes (R177) -/

/-- A lane on a tick: the transmit line, and the untracked RAISE of a soft reset (R84, R101). -/
def Lane.tick (l : Lane) : Lane :=
  { l with
    txTimer := l.txTimer.bind fun t => if Config.frameTicks + Config.gapTicks ≤ t + 1 then none else some (t + 1)
    resetRaise := l.resetRaise.map (· - 1) }

/-- A lane on a 1 ms strobe: the timer of what is outstanding (R93). The first strobe after the issue counts as one
(notes/assumptions/48.md). -/
def Lane.tickMs (l : Lane) : Lane :=
  { l with
    out := match l.out with
      | .free => .free
      | .order o => .order { o with count := o.count + 1 }
      | .halt h => .halt { h with count := h.count + 1 } }

/-- A head's contact filter timer and landing window on a 1 µs strobe (R103, R106). -/
def Contact.tickUs (c : Contact) : Contact :=
  { c with timer := c.timer.map (· + 1), window := c.window.map fun w => (w.1 + 1, w.2) }

/-- The engine's timers on a 1 µs strobe (R122, R123). -/
def Engine.tickUs (m : Engine) : Engine :=
  { m with
    settle := m.settle.map fun w => (w.1 + 1, w.2)
    sampleTimer := if m.phase = .integrate then m.sampleTimer + 1 else m.sampleTimer }

/-- The guard filter timer on a 1 µs strobe (R172). -/
def RunControl.tickUs (r : RunControl) : RunControl := { r with guardTimer := r.guardTimer.map (· + 1) }

/-- What a 1 µs strobe counts: the filters, the landing windows and the engine's timers. -/
def State.tickUs (s : State) : State :=
  { s with
    ctm := { s.ctm with heads := s.ctm.heads.map Contact.tickUs }
    men := s.men.tickUs
    run := s.run.tickUs }

/-- A waiting step's stall timer on a 1 ms strobe; a paused one keeps its count (R66). -/
def Entry.tickMs (e : Entry) : Entry :=
  { e with stall := e.stall.map fun t => if t.paused then t else { t with count := t.count + 1 } }

/-- The poll timer on a 1 ms strobe (R150). -/
def PlanReader.tickMs (p : PlanReader) : PlanReader :=
  { p with pollTimer := p.pollTimer.map fun w => (w.1 + 1, w.2) }

/-- A read that has gone out, on a 1 ms strobe (R144); LOADING's reads wait for the older writes (R165). -/
def HostRead.tickMs (waiting : Bool) (r : HostRead) : HostRead :=
  if r.purpose.isLoading && waiting then r else { r with ms := r.ms + 1 }

/-- LOADING's first read still waits for older writes (R165). -/
def RunControl.loadWaits (r : RunControl) : Bool := match r.load with | some l => l.writesAhead != 0 | none => false

/-- What a 1 ms strobe counts: order timers, stall timers, the poll timer and the reads that have gone out (R66, R93, R144,
R150). -/
def State.tickMs (s : State) : State :=
  { s with
    lanes := s.lanes.map Lane.tickMs
    window := s.window.map Entry.tickMs
    plr := s.plr.tickMs
    bus := { s.bus with reads := s.bus.reads.map (HostRead.tickMs s.run.loadWaits) } }

/-- BIF issues the oldest write of the queue when no step waits for its issue; one write a tick (R157,
notes/assumptions/2.md). -/
def State.issueUntracked (s : State) : State :=
  match s.bus.writes with
  | w :: rest => if w.tracked then s else s.issueWrite w rest
  | [] => s

/-- The counter and the prescaler on a tick (R177). -/
def TimeBase.tick (t : TimeBase) : TimeBase :=
  { ticks := t.ticks + 1, prescaler := (t.prescaler + 1) % Config.ticksPerMs }

/-- One 10 ns tick; a strobe falls where the prescaler's new count is a multiple of its period (R177). -/
def State.tick (s : State) : State :=
  let s := { s with tmb := s.tmb.tick, lanes := s.lanes.map Lane.tick }.issueUntracked
  let s := if s.tmb.prescaler % Config.ticksPerUs = 0 then s.tickUs else s
  if s.tmb.prescaler = 0 then s.tickMs else s

/-! ### Timers that have run out -/

/-- A count has reached its length. -/
def reachedLength (t : Option (Nat × Nat)) : Bool := match t with | some (n, len) => decide (len ≤ n) | none => false

/-- A filter timer has reached the time of its code; code 0 uses no timer (R103, R172). -/
def filterDone (code : Nat) (t : Option Nat) : Bool :=
  match t with
  | some n => code != 0 && decide (Config.filterTime code ≤ n)
  | none => false

/-- A lane's outstanding order or HALT has run out (R93). -/
def Lane.timedOut (l : Lane) : Bool :=
  match l.out with
  | .free => false
  | .order o => decide (o.timeout ≤ o.count)
  | .halt h => decide (h.timeout ≤ h.count)

/-- A pending HALT can go out (R84). -/
def Lane.haltReady (l : Lane) : Bool := l.pendingHalt && l.txTimer.isNone && l.haltable.isSome

/-- An order held for the transmit line alone can go out (R84, notes/assumptions/58.md). -/
def State.heldReady (s : State) (h : HeadId) : Bool :=
  (s.head h).heldOrder.isSome && (s.lane h).out == .free && (s.lane h).txTimer.isNone

/-- The command when a test holds. -/
def dueIf (b : Bool) (c : Instr) : List Instr := if b then [c] else []

/-- The commands of the block's own timers and of its write queue that are due. -/
def State.dueCommands (s : State) : List Instr :=
  dueIf (filterDone s.run.guardCode s.run.guardTimer) .guardFilterExpiry
    ++ allHeads.flatMap (fun h => dueIf (filterDone s.ctm.code (s.contact h).timer) (.contactFilterExpiry h))
    ++ allHeads.flatMap (fun h => dueIf (reachedLength (s.contact h).window) (.landingWindowExpiry h))
    ++ dueIf (reachedLength s.men.settle) .settleExpiry
    ++ dueIf (s.men.phase == .charge && decide (Config.maxCharge ≤ (s.tmb.ticks - s.men.chargeStart).toNat)) .chargeTimeout
    ++ allHeads.flatMap (fun l => dueIf (s.lane l).timedOut (.orderTimeout l))
    ++ allHeads.flatMap (fun l => dueIf ((s.lane l).haltReady || s.heldReady l) (.pendingHaltSend l))
    ++ allHeads.flatMap (fun l => dueIf ((s.lane l).resetRaise == some 0) (.softResetRaiseSent l))
    ++ (s.bus.reads.filter fun r => r.data.isNone && decide (Config.readTimeoutMs ≤ r.ms)).map (fun r => .accessErrorTimeout r.id)
    ++ dueIf (reachedLength s.plr.pollTimer) .pollTimerExpiry
    ++ s.window.flatMap (fun e => match e.phase, e.stall with
      | .waiting, some t => dueIf (decide (t.limit ≤ t.count)) (.stallTimerExpiry e.pos.seq e.pos.idx)
      | _, _ => [])
    ++ match s.bus.writes with
      | w :: _ => dueIf w.tag.isStatus .resultStatusIssued ++ dueIf w.tag.isMark .markValueIssued
      | [] => []

end Sys2Proof.Machine
end

