-- ==== Sys2Proof/Machine/Step.lean ====
section
/-! DEFINITION. One step: the command at the front of the queue, or, when none waits, what the part does by itself. -/

namespace Sys2Proof.Machine

/-- What the part does when no command waits: one of its own events that is due, in free order, or else one tick of the time
base. In a held reset it does nothing (R176, notes/assumptions/2.md). -/
def idle (s : State) : Host.Outcome State Fault Refusal :=
  if s.run.resetHeld then .next s
  else match s.dueCommands with
    | [] => .next s.tick
    | c :: cs =>
      let k := s.choose (cs.length + 1)
      exec ((c :: cs).getD k.1 c) k.2

/-- One step of the block. -/
def step (s : State) : Host.Outcome State Fault Refusal :=
  match s.pending with
  | c :: cs => exec c { s with pending := cs }
  | [] => idle s

/-- The state with the command a word spells put at the front of its queue; no word spells one. -/
def State.withFetchWord (s : State) (nbits w : Nat) : State :=
  match decodeTableWord nbits w with
  | some c => { s with pending := c :: s.pending }
  | none => s

end Sys2Proof.Machine
end

