-- ==== Sys2Proof/Safety.lean ====
section
/-! DEFINITION. What a good state of the LP-8 is, in the terms the statements use: the laws of the band table (R62), the bounds of
the window and page list (R140, R149), of the fault log (R182) and of the head table (R41, R53), the states in which nothing
is left to follow, and what several statements say of one kind of event: coming to rest, a delivery, an order that fails, an access error, a LOADING
that completes. -/

namespace Sys2Proof.Machine

/-! ### Laws every state keeps -/

/-- Two heads' held ranges keep the laws of R62: each a real range, and of one side disjoint and in index order. -/
def heldLawful (g h : HeadId) (r q : Option Range) : Bool :=
  match r, q with
  | some r, some q => g.side != h.side || rangesLawful g.index h.index r q
  | _, _ => true

/-- A held range is a contiguous range of bands 0-63 (R62). -/
def rangeReal (r : Option Range) : Bool :=
  match r with | some r => decide (r.lo ≤ r.hi ∧ r.hi ≤ Config.maxBand) | none => true

/-- The two laws of the band tables (R62). -/
def State.BandLaw (s : State) : Prop :=
  (∀ h : HeadId, rangeReal (s.head h).held = true) ∧
    ∀ g h : HeadId, g ≠ h → heldLawful g h (s.head g).held (s.head h).held = true

/-- The step window with the record reads in flight, and the page list, keep their capacities (R140, R149). -/
def State.WindowLaw (s : State) : Prop :=
  s.window.length + s.recordReads.length ≤ Config.windowSize ∧ s.plr.pages.length ≤ Config.pageListSize

/-- The log never holds more unread records than its ring (R182). -/
def State.LogLaw (s : State) : Prop := s.evu.unread ≤ 2 ^ s.evu.sizeCode

/-- Touch counts, wear limits and lead values stay in their ranges (R41, R53). -/
def State.HeadLaw (s : State) : Prop :=
  ∀ h : HeadId, (s.head h).touches ≤ Config.maxTouches ∧ (s.head h).wearLimit ≤ Config.maxTouches
    ∧ (s.head h).lead ≤ Config.maxLead

/-! ### States in which nothing is left to follow -/

/-- RESET_N is high and every follow-up of the events so far has been taken. -/
def State.Settled (s : State) : Prop := s.run.resetHeld = false ∧ s.begin.followUp = none

/-- RESET_N is high, the window is empty and no PARK is ACTIVE, and RUN fetches, retires and dispatches nothing. -/
def State.Resting (s : State) : Prop :=
  s.run.resetHeld = false ∧ s.window = [] ∧ s.park = none ∧ s.run.state = .stopped

/-- No step waits for a grant. -/
def State.NoneWaiting (s : State) : Prop := ∀ e ∈ s.window, e.phase ≠ .waiting

/-- The log takes no record: none is loaded, or overflow is set (R180, R184). -/
def State.LogOff (s : State) : Prop := s.evu.inForce = false ∨ s.evu.overflow = true

/-- The log has room, no re-read is out, and BIF allows its next slot and index (R143, R182). -/
def State.LogReady (s : State) : Prop :=
  s.evu.inForce = true ∧ s.evu.overflow = false ∧ s.evu.reread = none ∧ s.evu.room = true
    ∧ s.allowed (logSlot s.evu.base s.evu.sizeCode s.evu.writeIdx) 32 = true

/-- Recording a fault now would not be refused: the log takes no record, or BIF allows its next slot (R143, R182). -/
def State.LogReachable (s : State) : Prop :=
  s.LogOff ∨ s.allowed (logSlot s.evu.base s.evu.sizeCode s.evu.writeIdx) 32 = true

/-- The control block in force does not reach over the end of the host's address space, so that BIF allows every access
inside it (R143). -/
def State.BlockReachable (s : State) : Prop := s.bus.cba.toNat + Config.blockBytes ≤ 2 ^ 64

/-- A head of the part holds DRAINING open (R168). -/
def State.SomeHeadBusy (s : State) : Prop := ∃ h : HeadId, (s.head h).state.busyForDrain = true

/-- A lane takes replies: its receiver is not waiting for an idle line, and no soft reset is on its way (R85, R101). -/
def State.Receives (s : State) (l : HeadId) : Prop :=
  (s.lane l).receiver ≠ .waitIdle ∧ (s.lane l).resetRaise = none

/-! ### What the statements name -/

/-- A lane that has just taken a reply (R91). -/
def Lane.taken (x : Lane) : Lane :=
  { x with out := .free, pendingHalt := false, txTimer := none, receiver := .hunting }

/-- A lane that has just sent a HALT over an order: the order's tag is silent, the HALT takes the next tag (R84, R88, R90). -/
def Lane.haltOver (x : Lane) (o : SentOrder) (timeout : Nat) (accept : Option Range) (contact : Bool) : Lane :=
  { x with
    out := .halt { tag := x.nextTag, count := 0, timeout := timeout, replaced := o.kind, accept := accept, contact := contact }
    nextTag := x.nextTag + 1
    silent := (x.silent ||| (1#256 <<< o.tag.toNat)) &&& ~~~(1#256 <<< x.nextTag.toNat)
    pendingHalt := false
    txTimer := some 0 }

/-- The record of a fault that names a head, submitted in this state (R99, R179). -/
def State.headFault (s : State) (kind : FaultKind) (h : HeadId) (cause : Nat) (detail : Word) : FaultRecord :=
  { kind := kind, head := some h, side := some h.side, seq := stepSeq (s.head h).assigned,
    idx := stepIdx (s.head h).assigned, cause := cause, detail := detail, time := s.tmb.ticks, run := s.run.state }

/-! ### The end of a run -/

/-- The head states in which RUN directs a head to rest (R58, R100). -/
def HeadState.directed : HeadState → Bool
  | .moving | .homing | .descending | .settling | .landed => true
  | _ => false

/-- What ABORT, entry to GUARDED and entry to FAULTED direct one head to do, from a state to the one after (R20, R43, R58, R90,
R100): a HALT over a GOTO or an issued HOME, at once or pending while the transmit line is in use; a held HOME dropped; a RAISE
for a settling or landed head, at once or held while the transmit line is in use, and one held for a descending head; nothing for any
other. Its position, bands, touches and lead stay, and it is assigned to no step that was not DONE. That a head keeps its state while
its HALT waits for the line is the model's inference (notes/assumptions/10.md), and that a RAISE for a FREE lane is held while the
line is in use is the model's choice (notes/assumptions/58.md). -/
def State.DirectedToRest (s t : State) (h : HeadId) : Prop :=
  (∀ o : SentOrder, (s.lane h).out = .order o →
    ((s.head h).state = .moving ∧ o.kind = .goto)
      ∨ ((s.head h).state = .homing ∧ (s.head h).heldOrder ≠ some .home ∧ o.kind = .home) →
    ((s.lane h).txTimer.isSome = true →
      (t.head h).state = (s.head h).state ∧ (t.head h).heldOrder = (s.head h).heldOrder
        ∧ t.lane h = { s.lane h with pendingHalt := true })
    ∧ ((s.lane h).txTimer = none →
      (t.head h).state = .halting
        ∧ t.lane h = (s.lane h).haltOver o s.alc.raiseTimeout (if o.kind = .goto then (s.head h).held else none) o.contact))
  ∧ ((s.head h).state = .homing → (s.head h).heldOrder = some .home →
      (t.head h).state = .offline ∧ (t.head h).heldOrder = none ∧ (t.head h).assigned = none ∧ (t.head h).serving = none
        ∧ t.lane h = s.lane h)
  ∧ ((s.head h).state = .settling ∨ (s.head h).state = .landed → (s.lane h).out = .free →
      (t.contact h).window = none
        ∧ ((s.lane h).txTimer = none →
          (t.head h).state = .raising ∧ t.lane h = (s.lane h).issue .raise 0 0 s.alc.raiseTimeout)
        ∧ ((s.lane h).txTimer.isSome = true →
          (t.head h).state = (s.head h).state ∧ (t.head h).heldOrder = some .raise ∧ t.lane h = s.lane h))
  ∧ ((s.head h).state = .descending →
      (t.head h).state = .descending ∧ (t.head h).heldOrder = some .raise ∧ t.lane h = s.lane h)
  ∧ ((s.head h).state.directed = false →
      (t.head h).state = (s.head h).state ∧ (t.head h).heldOrder = (s.head h).heldOrder ∧ t.lane h = s.lane h)
  ∧ (t.head h).x = (s.head h).x ∧ (t.head h).y = (s.head h).y ∧ (t.head h).held = (s.head h).held
  ∧ (t.head h).touches = (s.head h).touches ∧ (t.head h).lead = (s.head h).lead
  ∧ ∀ e ∈ s.window, e.phase ≠ .done → (t.head h).assigned ≠ some e.pos

/-- The engine after a run has been brought to rest: FREE if it served a step that was not DONE, otherwise as it was (R20,
R126). -/
def State.EngineAtRest (s t : State) : Prop :=
  (∀ e ∈ s.window, e.phase ≠ .done → s.men.served = some e.pos →
    t.men = { s.men with served := none, phase := .free, attempts := [], settle := none, matrix := none, source := none })
  ∧ ((∀ e ∈ s.window, e.phase ≠ .done → s.men.served ≠ some e.pos) → t.men = s.men)

/-- What the delivery of a measured value of step e does (R18, R19, R45, R139): the engine is FREE; the step is LIFTING with the value,
the verdict on it, the final range and the flags, RERANGED if an attempt had been made before the last; and each head landed for it
is raised. -/
def State.Delivers (s t : State) (e : Entry) (kind : StepKind) (x : Nat) (highClamp lowClamp seen : Bool) : Prop :=
  t.men.phase = .free ∧ t.men.served = none ∧ t.men.attempts = [] ∧ t.men.matrix = none ∧ t.men.source = none
    ∧ t.run = s.run ∧ t.plr = s.plr
    ∧ (∃ q, t.entry? e.pos = some q ∧ q.phase = .lifting ∧ q.value = x ∧ q.verdict = some (kind.judge e.request x)
      ∧ q.finalRange = s.men.k ∧ q.flags.highClamp = highClamp ∧ q.flags.lowClamp = lowClamp
      ∧ q.flags.complianceSeen = seen ∧ q.flags.reranged = decide (1 ≤ s.men.attempts.length)
      ∧ q.flags.retouched = e.flags.retouched ∧ q.attempts = e.attempts)
    ∧ ∀ g : HeadId, (s.head g).assigned = some e.pos → (s.head g).state = .landed → (s.lane g).out = .free →
      (s.lane g).txTimer = none →
      (t.head g).state = .raising ∧ t.lane g = (s.lane g).issue .raise 0 0 s.alc.raiseTimeout
        ∧ (t.head g).assigned = some e.pos

/-- The engine of a step that can go on no longer: FREE if it served that step, otherwise as it was (R126). -/
def Engine.abandoned (m : Engine) (p : Pos) : Engine :=
  if m.served = some p then
    { m with served := none, phase := .free, attempts := [], settle := none, matrix := none, source := none }
  else m

/-- The nine writes of a write-back: the cursor, then each head's touch count and lead value, with identities from n (R55, R158,
R191). -/
def State.writeBackWrites (s : State) (n : Nat) : List HostWrite :=
  ⟨n, .cursor, s.bus.cba + 0x018, 16,
      BitVec.ofNat 256 (s.plr.cursorAddr.toNat + 2 ^ 64 * (s.plr.cursorIdx % 2 ^ 16))⟩ ::
    allHeads.map fun h =>
      ⟨n + 1 + h.val, .counts h, s.bus.cba + BitVec.ofNat 64 (0x080 + 32 * h.val + 0x10), 8,
        BitVec.ofNat 256 ((s.head h).touches % 2 ^ 32 + 2 ^ 32 * ((s.head h).lead % 2 ^ 32))⟩

/-- The completion of a LOADING with block b finds no worn flag newly set, no contact level that a new filter code 0 would let through,
and no guard level that code 0 would (R51, R104, R172). -/
def State.LoadsQuietly (s : State) (b : ControlBlock) : Prop :=
  (∀ h : HeadId, cbWearLimit b h ≠ 0 → cbWearLimit b h ≤ cbTouches b h → (s.head h).worn = true)
    ∧ (cbContactCode b = s.ctm.code ∨ cbContactCode b ≠ 0)
    ∧ (cbGuardCode b ≠ 0 ∨ (s.run.guardPin == cbPolarity b) = s.run.guardOpen)

/-- The state in which a quiet LOADING of the control block b at cba completes: every block has taken its contents, the part is
RUNNING, and the header read of the cursor page is out (R26, R54, R104, R142, R148, R167, R172, R181). The log's re-read leaves the list
at once (notes/assumptions/36.md), the filter timers restart (notes/assumptions/31.md), and with a new band geometry a head loses its
assigned step and point served and keeps its held order (notes/assumptions/20.md). -/
def State.afterLoading (s : State) (cba : Addr) (b : ControlBlock) : State :=
  let worn (h : HeadId) : Bool := cbWearLimit b h != 0 && decide (cbWearLimit b h ≤ cbTouches b h)
  let moved := cbWidth b ≠ s.fru.width ∨ cbMargin b ≠ s.fru.margin
  { s with
    run := { s.run with
      state := .running, resume := none, load := none, guardCode := cbGuardCode b, polarity := cbPolarity b
      guardTimer := if (s.run.guardPin == cbPolarity b) = s.run.guardOpen then none else some 0 }
    bus := { s.bus with
      cba := cba
      window := some (cbWindowBase b, cbWindowLimit b)
      reads := (s.bus.reads.filter fun q => q.purpose ≠ .logIndex) ++
        [⟨s.bus.nextRead, .header false, cbCursorPage b, s.plr.generation, 0, none⟩]
      nextRead := s.bus.nextRead + 1 }
    evu := { s.evu with
      inForce := true, base := cbLogBase b, sizeCode := cbLogSize b, writeIdx := cbLogWrite b
      readIdx := cbLogRead b, reread := none, pendingFaults := [] }
    fru := { transforms := cbTransforms b, keepOut := cbKeepOut b, area := cbArea b, width := cbWidth b
             margin := cbMargin b }
    sides := if moved then ⟨false, false⟩ else s.sides
    heads := PerHead.tabulate fun h =>
      { s.head h with
        homeX := cbHomeX b h, homeY := cbHomeY b h, enabled := cbEnabled b h, wearLimit := cbWearLimit b h
        touches := cbTouches b h, lead := cbLead b h, worn := worn h
        state := if moved then .offline else (s.head h).state
        held := if moved then none else (s.head h).held
        assigned := if moved then none else (s.head h).assigned
        serving := if moved then none else (s.head h).serving }
    alc := { gotoTimeout := cbGotoTimeout b, descendTimeout := cbDescendTimeout b, raiseTimeout := cbRaiseTimeout b
             homeTimeout := cbHomeTimeout b, tolerance := cbTolerance b, descentLimit := cbDescent b }
    stallLimit := cbStallLimit b
    men := { s.men with secondarySettle := cbSecondarySettle b, defaultCompliance := cbCompliance b }
    ctm := { code := cbContactCode b
             heads := if cbContactCode b = s.ctm.code then s.ctm.heads
                      else s.ctm.heads.map fun c => { c with timer := c.timer.map fun _ => 0 } }
    plr := { s.plr with
      cursorAddr := cbCursorPage b, cursorIdx := cbCursorIndex b, pages := [], chain := none, fetch := .header
      pollInterval := min (max (cbPollInterval b) 1) 1000, starvedArm := true, planLoaded := true }
    due := Due.none }

/-- A host write that carries a step's result (R21, R24). -/
def HostWrite.isResult (w : HostWrite) : Bool := match w.tag with | .resultItems _ | .resultStatus _ => true | _ => false

/-- An entry to FAULTED that ends no LOADING has lost the result writes and made the write-back of the cursor and counts as they
stand, if the plan loaded flag is set; only interrupt messages follow it (R21, R158, R189). -/
def State.WrittenBackFaulted (s t : State) : Prop :=
  (∀ w ∈ t.bus.writes, w.isResult = false) ∧
    (s.plr.planLoaded = true →
      ∃ front back n, t.bus.writes = front ++ s.writeBackWrites n ++ back ∧ ∀ w ∈ back, w.tag = .message)

/-- What the access error of a read, other than LOADING's, has done in FAULTED, outside a LOADING: MEMORY_WINDOW submitted with cause
2 and what the read belongs to, and the write-back made (R144, R158, R179). For the log's own re-read, overflow is set first, with
its event unless it was set before, and the pending list is lost, so that nothing is recorded (R183, R184). -/
def State.FaultedByRead (s : State) (r : HostRead) (t : State) : Prop :=
  r.purpose.isLoading = false → (r.purpose = .logIndex → s.evu.reread = some r.id) → s.run.endsLoad = false →
    s.BlockReachable →
    let f : FaultRecord :=
      { kind := .memoryWindow, head := none, side := none
        seq := match r.purpose with
          | .record p => p.seq
          | .header _ => (match s.fetchPage with | some p => p.seq | none => 0)
          | _ => 0
        idx := match r.purpose with | .record p => some p.idx | _ => none
        cause := 2, detail := r.addr.setWidth 32, time := s.tmb.ticks, run := s.run.state }
    t.evu =
        (if r.purpose = .logIndex then
          { s.evu with
            reread := none, pendingFaults := [], overflow := true
            events := s.evu.events ||| (if s.evu.overflow then 0x01#8 else 0x05#8) }
        else { (s.takeFault f).evu with events := (s.takeFault f).evu.events ||| 0x01#8 })
      ∧ s.WrittenBackFaulted t

/-- What the failure of the order of a head does, from a state s to a state t: u is s with the fault taken and the lane FREE, and f
what becomes of the head, IDLE or LOST (R18, R44, R45, R47, R57, R61, R79, R96, R97).
* In STOPPED with an empty window nothing else happens.
* The head of a point of the only step of the window, another head of which is still at work: the point fails, and the step is
  LIFTING with DRIVE_FAILURE unless a verdict stands; a step that is LIFTING already keeps its verdict (R18, R19).
* The head of a yield: the yield fails, and what that calls for follows on the event (R79).
* The head of a PARK's move: it is skipped and settled, and the PARK goes on on the event (R61).
* The head of an ACTIVE HOME_SIDE: the step stays ACTIVE while another head of the side is HOMING, and otherwise ends with
  DRIVE_FAILURE, its result handed as two writes (R24, R57; the record's writes stand first, notes/assumptions/57.md). -/
def State.OrderFails (s u t : State) (l : HeadId) (f : Head → Head) : Prop :=
  let v := u.modHead l f
  (s.Resting → t = v.finish)
  ∧ (∀ (e : Entry) (n : PointName) (g : HeadId), s.Settled → s.window = [e] → (s.head l).assigned = some e.pos →
      (s.head l).serving = some (.point n) → n ∈ e.points → g ≠ l → (s.head g).assigned = some e.pos → (s.head g).state ≠ .lost →
      e.phase = .granted ∨ e.phase = .lifting →
      ∃ q, t.window = [q] ∧ q.phase = .lifting ∧ t.head l = f (s.head l) ∧ t.lane l = u.lane l ∧ t.evu = u.evu ∧ t.run = s.run
        ∧ (e.phase = .granted → q.verdict = (e.verdict <|> some .driveFailure) ∧ (q.point n).phase = .failed)
        ∧ (e.phase = .lifting → q.verdict = e.verdict))
  ∧ (∀ p : Pos, s.run.resetHeld = false → (s.head l).state = .moving → (s.head l).assigned = some p →
      (s.head l).serving = some .yielding →
      t = (settle followUps ((v.begin.callEval l.side).failYield p l)).finish)
  ∧ (∀ k : Park, s.run.resetHeld = false → (s.head l).state = .moving → (s.head l).assigned.isSome = true →
      (s.head l).serving = some .park → s.park = some k → k.current = some l →
      t = (settle followUps ({ v.begin.callEval l.side with
        park := some { k with settled := l :: k.settled, skipped := true, current := none } } : State)).finish)
  ∧ (∀ e : Entry, s.Settled → s.window = [e] → e.homes = some l.side → (s.head l).state = .homing →
      (s.head l).serving = some .home →
      (∀ g : HeadId, g ≠ l → g.side = l.side → (s.head g).state = .homing → t = v.finish)
      ∧ (e.written = false → s.allowed (e.addr + 0x62) 30 = true → s.allowed (e.addr + 0x60) 2 = true →
        (∀ g : HeadId, g ≠ l → g.side = l.side → (s.head g).state ≠ .homing) →
        t = ({ v with
          window := [e.finished .driveFailure s.tmb.ticks]
          bus := { v.bus with
            writes := v.bus.writes ++
              [⟨v.bus.nextWrite, .resultItems e.pos, e.addr + 0x62, 30, resultItems (e.finished .driveFailure s.tmb.ticks)⟩,
                ⟨v.bus.nextWrite + 1, .resultStatus e.pos, e.addr + 0x60, 2, BitVec.ofNat 256 Verdict.driveFailure.code⟩]
            nextWrite := v.bus.nextWrite + 2 } } : State).finish))

/-- Two ranges have no band in common (R70). -/
def Range.apart (r q : Range) : Prop := ∀ b, ¬((r.lo ≤ b ∧ b ≤ r.hi) ∧ (q.lo ≤ b ∧ b ≤ q.hi))

/-- What R70 asks of the part of an assignment on one side, with the yields it needs there: nothing where the step has no point on
the side, and otherwise, with lo and hi the main heads of lower and higher index, condition 4 (both cascades are made), then 1, 2, 3
and 5. A shadow is that of an older step that still waits (R65, R71). -/
def State.FeasiblePart (s : State) (p : Pos) (d : Side) (ms : List MainPart) (ys : List Yield) : Prop :=
  (ms = [] ∧ ys = []) ∨
    ∃ lo hi ls rs,
      ((ms = [lo] ∧ hi = lo) ∨ (lo.head.index < hi.head.index ∧ (ms = [lo, hi] ∨ ms = [hi, lo])))
      ∧ s.leftCascade d lo.sweep.lo lo.head.index = some ls
      ∧ s.rightCascade d hi.sweep.hi (3 - hi.head.index) = some rs ∧ ys = ls ++ rs
      ∧ (∀ m ∈ ms, ∀ b, m.sweep.lo ≤ b → b ≤ m.sweep.hi → match s.holder m.head.side b with
        | none => s.promised m.head.side b = false
        | some g => g = m.head ∨ ∃ y ∈ ys, y.head = g)
      ∧ ((ms.map fun m => m.sweep) ++ ys.map fun y =>
          (⟨y.band - s.fru.margin, min (y.band + s.fru.margin) 63⟩ : Range)).Pairwise Range.apart
      ∧ (∀ g : HeadId, g.side = d → lo.head.index < g.index → g.index < hi.head.index →
          ∀ r, (s.head g).held = some r → ∀ m ∈ ms, r.apart m.sweep)
      ∧ ∀ r ∈ (ms.map fun m => m.sweep) ++ ys.map fun y => y.sweep,
          ∀ front o back, s.window = front ++ o :: back → o.pos ≠ p → (∀ e ∈ front, e.pos ≠ p) → o.phase = .waiting →
            ∀ n ∈ o.points, o.sideOf n = d → ∀ t, (o.point n).target = some t → r.apart (s.footprint t.1)

end Sys2Proof.Machine
end

