-- ==== Sys2Proof/Certificates/Slice0/Obligations.lean ====
section
/-! DEFINITION. The statements about the LP-8 model. Most of them give the next state of a command as one expression, which says
both that the command completes and that everything not named stays as it was. `State.finish` leaves a state with nothing due. -/

section

open Sys2Proof Sys2Proof.Machine

/-! ### The queue and the clock -/

/-- The front command of the queue runs, on the state with the rest of the queue. -/
def Obligations.StepRunsFrontCommand : Prop :=
  ∀ (c : Instr) (cs : List Instr) (s : State), s.pending = c :: cs → step s = exec c { s with pending := cs }

/-- With no command waiting: nothing in a held reset, the one due event if there is one, and otherwise one tick, by which the
counter and the prescaler go on. That the empty queue does so is the model's choice (notes/assumptions/2.md); the counting
is that of R177. -/
def Obligations.EmptyQueueTicks : Prop :=
  ∀ s : State, s.pending = [] →
    (s.run.resetHeld = true → step s = .next s)
      ∧ (s.run.resetHeld = false → s.dueCommands = [] → step s = .next s.tick
          ∧ s.tick.tmb.ticks = s.tmb.ticks + 1 ∧ s.tick.tmb.prescaler = (s.tmb.prescaler + 1) % 100000
          ∧ s.tick.regs = s.regs ∧ s.tick.fru = s.fru ∧ s.tick.heads = s.heads ∧ s.tick.sides = s.sides
          ∧ s.tick.evu = s.evu ∧ s.tick.run.state = s.run.state)
      ∧ (s.run.resetHeld = false → ∀ c : Instr, s.dueCommands = [c] → step s = exec c s)

/-- No command touches the queue of waiting commands. -/
def Obligations.ExecKeepsQueue : Prop :=
  ∀ (c : Instr) (s t : State), exec c s = .next t → t.pending = s.pending

/-- While RESET_N is held low, every command but a reset, the release and the levels of the inputs leaves the part as it
is (R176). -/
def Obligations.HeldResetIgnores : Prop :=
  ∀ (c : Instr) (s : State), s.run.resetHeld = true → c ≠ .resetNRelease → (∀ k, c ≠ .deviceReset k) →
    (∀ b, c ≠ .msiEnableChange b) → (∀ b, c ≠ .guardInputChange b) → (∀ h b, c ≠ .contactSenseChange h b) →
    exec c s = .next s

/-! ### Laws that every step keeps -/

/-- The two laws of the band tables (R62) are kept by every step. -/
def Obligations.BandLawKept : Prop :=
  ∀ s t : State, s.BandLaw → step s = .next t → t.BandLaw

/-- The window with the record reads in flight never grows past 16, nor the page list past 8 (R140, R149). -/
def Obligations.WindowLawKept : Prop :=
  ∀ s t : State, s.WindowLaw → step s = .next t → t.WindowLaw

/-- The write index never runs more than 2^n ahead of the read index last read (R182). -/
def Obligations.LogLawKept : Prop :=
  ∀ s t : State, s.LogLaw → step s = .next t → t.LogLaw

/-- Touch counts, wear limits and lead values stay in their ranges (R41, R50, R53). -/
def Obligations.HeadLawKept : Prop :=
  ∀ s t : State, s.HeadLaw → step s = .next t → t.HeadLaw

/-- The state after reset meets the four laws, and every item of every block stands at its reset value: the run state, the guard
filter code 7 with the guard closed, no log, events and enables clear, the registers 0, no command read or write out, no control
block and no window, every transform invalid, every rectangle disabled, the work areas empty, w 5,000 and m 0, every head OFFLINE
at 0 with no bands, both sides CLOSED, every lane FREE and hunting with all tags silent, the longest timeouts, contact filter code
7 with every level open, the engine FREE, PLR paused, no step and no PARK or RELOAD. The levels of the inputs (contacts open, GUARD
low, message enable clear) and the engine's sample timer and capture are the model's choice (notes/assumptions/1.md), and so is it that
the discharge switch is closed while the engine is FREE (notes/assumptions/56.md). -/
def Obligations.ResetMeetsLaws : Prop :=
  State.reset.BandLaw ∧ State.reset.WindowLaw ∧ State.reset.LogLaw ∧ State.reset.HeadLaw
    ∧ State.reset.run.state = .idle ∧ State.reset.evu.inForce = false ∧ State.reset.evu.events = 0#8
    ∧ State.reset.evu.enables = 0#8 ∧ State.reset.regs = ⟨0, 0⟩ ∧ State.reset.men.phase = .free
    ∧ State.reset.window = [] ∧ State.reset.sides = ⟨false, false⟩ ∧ State.reset.tmb.ticks = 0
    ∧ (∀ h, (State.reset.head h).state = .offline) ∧ (∀ h, (State.reset.lane h).silent = BitVec.allOnes 256)
    ∧ State.reset.tmb.prescaler = 0
    ∧ State.reset.run =
        { state := .idle, resume := none, planEndHeld := false, polarity := false, guardCode := 7, guardPin := false,
          guardOpen := false, guardTimer := some 0, load := none, resetHeld := false }
    ∧ State.reset.evu =
        { inForce := false, base := 0, sizeCode := 4, writeIdx := 0, readIdx := 0, overflow := false, reread := none,
          pendingFaults := [], events := 0, enables := 0 }
    ∧ State.reset.bus =
        { cba := 0, window := none, reads := [], writes := [], nextRead := 0, nextWrite := 0, msiEnable := false }
    ∧ (∀ (g : Nat) (t : PerSide Transform) (d : Side), State.reset.fru.transforms.get? g = some t →
        t.get d = { valid := false, mirror := false, kppm := 0, ox := 0, oy := 0, c := 0, s := 0 })
    ∧ (∀ d : Side, (State.reset.fru.keepOut.get d).length = 16
        ∧ (∀ r ∈ State.reset.fru.keepOut.get d, ¬(r.xmin ≤ r.xmax ∧ r.ymin ≤ r.ymax))
        ∧ State.reset.fru.area.get d = ⟨0, 0⟩)
    ∧ State.reset.fru.width = 5000 ∧ State.reset.fru.margin = 0
    ∧ (∀ h, State.reset.head h =
        { state := .offline, enabled := false, worn := false, assigned := none, serving := none, x := 0, y := 0,
          held := none, heldOrder := none, touches := 0, wearLimit := 0, lead := 0, homeX := 0, homeY := 0 })
    ∧ (∀ l, State.reset.lane l =
        { out := .free, nextTag := 0, pendingHalt := false, silent := BitVec.allOnes 256, receiver := .hunting,
          txTimer := none, resetRaise := none })
    ∧ State.reset.alc =
        { gotoTimeout := 65535, descendTimeout := 65535, raiseTimeout := 65535, homeTimeout := 65535, tolerance := 0,
          descentLimit := ⟨0, 0⟩ }
    ∧ State.reset.ctm.code = 7
    ∧ (∀ h, State.reset.contact h = { raw := false, filtered := false, timer := none, window := none })
    ∧ State.reset.men =
        { served := none, phase := .free, k := 0, compliance := 2500, attempts := [], settle := none, sampleTimer := 0,
          samples := 0, sum := 0, overMark := false, complianceMark := false, chargeStart := 0, capture := 0,
          secondarySettle := 0, defaultCompliance := 1, matrix := none, source := none }
    ∧ State.reset.men.discharging = true
    ∧ State.reset.plr =
        { cursorAddr := 0, cursorIdx := 0, pages := [], chain := none, fetch := .paused, pollTimer := none,
          pollInterval := 1000, starvedArm := true, planLoaded := false, generation := 0 }
    ∧ State.reset.stallLimit = 0 ∧ State.reset.park = none ∧ State.reset.reload = none ∧ State.reset.pending = []

/-! ### Run commands (R164) -/

/-- START taken at rest with an aligned address: the window and the page list are emptied, every plan read is discarded, the
address is recorded, and the sixteen reads of the block are requested (R160, R165). That the discarded reads leave the list at
once is the model's choice (notes/assumptions/36.md), and so is it that the re-read of the log's index stays in flight over the
START (notes/assumptions/18.md), and that the addresses of the sixteen reads wrap modulo 2^64 for a block that reaches over the
end of the address space (notes/assumptions/50.md). -/
def Obligations.StartLoads : Prop :=
  ∀ s : State, s.run.resetHeld = false → s.run.state.atRest = true →
    (s.regs.cbaHi ++ s.regs.cbaLo : Addr).toNat % 64 = 0 →
    exec .start s = .next
      { s with
        window := []
        park := none
        reload := none
        plr := { s.plr with
          generation := s.plr.generation + 1, pages := [], chain := none, pollTimer := none, fetch := .paused }
        run := { s.run with
          state := .loading
          resume := none
          load := some { cba := s.regs.cbaHi ++ s.regs.cbaLo, block := 0, remaining := 16,
                         writesAhead := s.bus.writes.length } }
        bus := { s.bus with
          reads := (s.bus.reads.filter fun r => r.purpose = .logIndex) ++
            (List.range 16).map fun i =>
              ⟨s.bus.nextRead + i, .loading i, (s.regs.cbaHi ++ s.regs.cbaLo : Addr) + BitVec.ofNat 64 (128 * i),
                s.plr.generation + 1, 0, none⟩
          nextRead := s.bus.nextRead + 16 }
        due := Due.none }

/-- LOADING fails into FAULTED, with no LOADING left, an empty window and no write-back: at once for a misaligned address, or on its
last read for a block that fails a check, which is recorded as CONFIG_INVALID in the log that the failed LOADING read if checks 1, 3,
4 and 6 pass, overflow is clear and that log has room; a full one sets overflow (R158, R165, R166, R171, R185). The log in force is
otherwise as it was, but for the re-read and the pending list, which the end of LOADING discards (R181). That the page list is left
empty, where R142 leaves it as before the START, is the model's choice (notes/assumptions/49.md). -/
def Obligations.LoadFailures : Prop :=
  (∀ s : State, s.run.resetHeld = false → s.run.state.atRest = true →
    (s.regs.cbaHi ++ s.regs.cbaLo : Addr).toNat % 64 ≠ 0 →
    ∃ t, exec .start s = .next t ∧ t.run.state = .faulted ∧ t.run.load = none ∧ t.window = [] ∧ t.plr.pages = []
      ∧ t.evu = { s.evu with reread := none, pendingFaults := [], events := s.evu.events ||| 0x01#8 }
      ∧ ∀ w ∈ t.bus.writes, w ∈ s.bus.writes ∨ w.tag = .message) ∧
  (∀ (s : State) (id i k : Nat) (d : Block) (r : HostRead) (l : Load), s.run.resetHeld = false →
    s.run.state = .loading → s.openRead id = some r → r.purpose = .loading i → s.run.load = some l →
    l.remaining = 1 → l.writesAhead = 0 → loadFailure l.cba (ControlBlock.put l.block i d) = some k →
    let b := ControlBlock.put l.block i d
    let usable := (loadCheck l.cba b 1 && loadCheck l.cba b 3 && loadCheck l.cba b 4 && loadCheck l.cba b 6) = true
      ∧ s.evu.overflow = false
    let unread := (cbLogWrite b - cbLogRead b).toNat
    let f : FaultRecord :=
      { kind := .configInvalid, head := none, side := none, seq := 0, idx := none, cause := 0, detail := BitVec.ofNat 32 k
        time := s.tmb.ticks, run := .loading }
    ∃ t, exec (.loadingReadReturn id d) s = .next t ∧ t.run.state = .faulted ∧ t.run.load = none ∧ t.window = []
      ∧ t.plr.pages = [] ∧ t.bus.cba = s.bus.cba ∧ t.bus.window = s.bus.window ∧ t.fru = s.fru ∧ t.alc = s.alc
      ∧ (usable → unread < 2 ^ cbLogSize b →
          t.evu = { s.evu with reread := none, pendingFaults := [], events := s.evu.events ||| 0x09#8 }
          ∧ ⟨s.bus.nextWrite, .faultRecord, logSlot (cbLogBase b) (cbLogSize b) (cbLogWrite b), 32, faultBytes f⟩ ∈ t.bus.writes
          ∧ ⟨s.bus.nextWrite + 1, .logIndex, l.cba + 0x034, 4, (cbLogWrite b + 1).setWidth 256⟩ ∈ t.bus.writes
          ∧ ∀ w ∈ t.bus.writes, w ∈ s.bus.writes ∨ w.tag = .message ∨ w.id = s.bus.nextWrite ∨ w.id = s.bus.nextWrite + 1)
      ∧ (usable → 2 ^ cbLogSize b ≤ unread →
          t.evu = { s.evu with
            overflow := true, reread := none, pendingFaults := [], events := s.evu.events ||| 0x05#8 }
          ∧ ∀ w ∈ t.bus.writes, w ∈ s.bus.writes ∨ w.tag = .message)
      ∧ (¬usable →
          t.evu = { s.evu with reread := none, pendingFaults := [], events := s.evu.events ||| 0x01#8 }
          ∧ ∀ w ∈ t.bus.writes, w ∈ s.bus.writes ∨ w.tag = .message))

/-- A command that the table of R164 does not take in the run state, and a value that names no command, set COMMAND_REFUSED
and change nothing else but the message that this may send. -/
def Obligations.CommandsRefused : Prop :=
  ∀ s : State, s.run.resetHeld = false →
    (s.run.state.atRest = false → exec .start s = .next (s.setEvent .commandRefused).finish)
      ∧ (s.run.state ≠ .running → exec .stop s = .next (s.setEvent .commandRefused).finish)
      ∧ (s.run.state.abortable = false → exec .abort s = .next (s.setEvent .commandRefused).finish)
      ∧ ((s.run.state ≠ .guarded ∨ s.run.guardOpen = true) →
          exec .resume s = .next (s.setEvent .commandRefused).finish)
      ∧ (∀ v : Word, v.toNat = 0 ∨ 6 < v.toNat →
          exec (.unknownCommand v) s = .next (s.setEvent .commandRefused).finish)

/-- STOP in RUNNING. With a head at work: DRAINING, the waiting steps PENDING again, no LOST head assigned to one of them any
more, the poll timer stopped (R20, R47, R168). With no head at work and no step under way, STOPPED on the same event, with the
write-back (R158, R168, R170). DRAINING ends so on the event that brings its last head to rest: here the RAISED of a head with
no step. On entry to STOPPED the writes still in the queue are issued ahead of the write-back, every result among them (R21,
R157); that all of them are issued on that event is the model's choice (notes/assumptions/45.md). -/
def Obligations.StopDrains : Prop :=
  (∀ s : State, s.run.state = .running → s.Settled →
    let t : State :=
      { s with
        window := s.window.map fun e => if e.phase = .waiting then Entry.fresh e.pos e.addr e.request else e
        heads := s.heads.map fun x =>
          if x.state = .lost ∧ ∃ e ∈ s.window, e.phase = .waiting ∧ x.assigned = some e.pos then
            { x with assigned := none, serving := none }
          else x
        plr := { s.plr with pollTimer := none }
        run := { s.run with state := .draining, resume := none }
        due := Due.none }
    (s.SomeHeadBusy → exec .stop s = .next t)
    ∧ (¬s.SomeHeadBusy → (∀ e ∈ s.window, e.phase = .pending ∨ e.phase = .waiting) → s.park = none →
      s.run.planEndHeld = false → s.BlockReachable → (∀ w ∈ s.bus.writes, w.isResult = false) →
      exec .stop s = .next
        (({ ({ t with bus := { s.bus with writes := [] } } : State).writeBack with
            run := { s.run with state := .stopped, resume := none } } : State).setEvent .stopped).finish))
  ∧ (∀ (s : State) (l : HeadId) (o : SentOrder), s.run.resetHeld = false → s.run.state = .draining → s.window = [] →
    s.plr.pages = [] → s.park = none → s.run.planEndHeld = false → s.BlockReachable → s.Receives l →
    (s.lane l).out = .order o → o.kind = .raise → (s.head l).state = .raising → (s.head l).assigned = none →
    (s.head l).heldOrder = none → (∀ h : HeadId, h ≠ l → (s.head h).state.busyForDrain = false) →
    let t := (s.modLane l Lane.taken).modHead l fun q => { q with state := .idle, assigned := none, serving := none }
    exec (.raised l o.tag) s = .next
      (({ ({ t with bus := { s.bus with writes := [] } } : State).writeBack with
          run := { s.run with state := .stopped, resume := none }
          plr := { s.plr with pollTimer := none } } : State).setEvent .stopped).finish)

/-- ABORT in LOADING, RUNNING, DRAINING and GUARDED: STOPPED at once, with every entry PENDING or DONE, no control step under
way, each head directed to rest, and the engine FREE if it served a step that was not DONE (R20, R100, R126, R169, R170). Every
result handed before has been issued: no result write is left in the queue, a step whose status stood there is written, and the
sweep leaves no oldest entry that is DONE and written (R21, R154, R170). In LOADING, whose window and page list the START has
emptied, and with no head at work, that is all but the reads of the load and the log's re-read dropped, and the queue issued,
without a write-back (R167, R170, R181). That the entry to STOPPED issues the queue on its own event is the model's inference,
and that it issues all of it the model's choice (notes/assumptions/45.md); that LOADING directs heads too, and that the page
list stays as empty as the START left it, are the model's choices where rules differ (notes/assumptions/47.md, 49.md), and so is
it that discarded reads leave the list at once (notes/assumptions/36.md) and that a RAISE for a landed head waits as its held
order while the transmit line of its FREE lane is in use (notes/assumptions/58.md); that a head keeps its state while its HALT
waits for the line is the model's inference (notes/assumptions/10.md). -/
def Obligations.AbortStopsRun : Prop :=
  (∀ s : State, s.run.resetHeld = false →
    (s.run.state = .loading ∨ s.run.state = .running ∨ s.run.state = .draining ∨ s.run.state = .guarded) →
    s.BlockReachable → (∀ p ∈ s.plr.pages, s.allowed (p.addr + 0x0C) 4 = true) →
    ∃ t, exec .abort s = .next t ∧ t.run.state = .stopped ∧ t.run.resume = none
      ∧ (∀ e ∈ t.window, e.phase = .pending ∨ e.phase = .done) ∧ t.park = none ∧ t.reload = none
      ∧ t.plr.pollTimer = none ∧ t.evu.events.getLsbD 6 = true
      ∧ (∀ h : HeadId, s.DirectedToRest t h) ∧ s.EngineAtRest t
      ∧ (∀ w ∈ t.bus.writes, w.isResult = false)
      ∧ (∀ w ∈ s.bus.writes, ∀ e ∈ t.window, w.tag = .resultStatus e.pos → e.written = true)
      ∧ (s.WindowLaw → ∀ e es, t.window = e :: es → ¬(e.phase = .done ∧ e.written = true))) ∧
  (∀ s : State, s.run.resetHeld = false → s.run.state = .loading → s.window = [] → s.plr.pages = [] →
    (∀ h : HeadId, (s.head h).state.directed = false) →
    exec .abort s = .next
      (({ s with
        run := { s.run with state := .stopped, resume := none, planEndHeld := false, load := none }
        park := none
        reload := none
        plr := { s.plr with pollTimer := none }
        bus := { s.bus with
          reads := s.bus.reads.filter fun r => !r.purpose.isLoading && decide (r.purpose ≠ .logIndex)
          writes := [] }
        evu := { s.evu with reread := none, pendingFaults := [] } } : State).setEvent .stopped).finish)

/-- RESUME with the guard closed and an empty window goes to the resume target: RUNNING with the cursor page's header read still
out, DRAINING with a head at work, STOPPED with its write-back, or STOPPED without one. A plan end held over the guard trip takes
a RESUME to RUNNING or DRAINING into STOPPED, with no second write-back (R156, R170, R174). On entry to STOPPED the writes still in
the queue are issued first (R21, R157); that all of them are is the model's choice (notes/assumptions/45.md). -/
def Obligations.ResumeTargets : Prop :=
  ∀ s : State, s.run.resetHeld = false → s.run.state = .guarded → s.run.guardOpen = false → s.window = [] →
    s.plr.pages = [] → s.park = none →
    (s.run.resume = some .running → s.run.planEndHeld = false → s.plr.fetch = .header → s.headerReadOut = true →
      exec .resume s = .next { s with run := { s.run with state := .running, resume := none }, due := Due.none })
    ∧ (s.run.resume = some .draining → s.run.planEndHeld = false → s.SomeHeadBusy →
      exec .resume s = .next { s with run := { s.run with state := .draining, resume := none }, due := Due.none })
    ∧ (s.run.resume = some .stopped → s.run.planEndHeld = false → s.BlockReachable →
      exec .resume s = .next
        (({ ({ s with bus := { s.bus with writes := [] } } : State).writeBack with
          run := { s.run with state := .stopped, resume := none, planEndHeld := false }
          plr := { s.plr with pollTimer := none } } : State).setEvent .stopped).finish)
    ∧ ((s.run.resume = some .stoppedNoWriteBack
          ∨ ((s.run.resume = some .running ∨ s.run.resume = some .draining) ∧ s.run.planEndHeld = true)) →
      exec .resume s = .next
        (({ s with
          bus := { s.bus with writes := [] }
          run := { s.run with state := .stopped, resume := none, planEndHeld := false }
          plr := { s.plr with pollTimer := none } } : State).setEvent .stopped).finish)

/-- RESET: every block but the lanes takes its reset values, the inputs keep their levels, and each lane retires what is
outstanding and sends its RAISE (R101, R176). That a lane keeps its tag counter and its silent tags until that RAISE has been sent is
the model's choice (notes/assumptions/29.md), and so is it that reads in flight leave the list at once (notes/assumptions/36.md). -/
def Obligations.ResetTaken : Prop :=
  ∀ s : State, s.run.resetHeld = false → ∃ t, exec .reset s = .next t
    ∧ t.run = RunControl.atReset s.run.guardPin false ∧ t.regs = ⟨0, 0⟩ ∧ t.evu = EventUnit.atReset
    ∧ t.fru = FrameUnit.atReset ∧ t.heads = PerHead.fill Head.atReset ∧ t.sides = ⟨false, false⟩
    ∧ t.men = Engine.atReset ∧ t.plr = PlanReader.atReset ∧ t.window = [] ∧ t.stallLimit = 0 ∧ t.park = none
    ∧ t.reload = none ∧ t.tmb = ⟨0, 0⟩ ∧ t.bus.reads = [] ∧ t.bus.writes = [] ∧ t.bus.msiEnable = s.bus.msiEnable
    ∧ t.ctm.code = 7 ∧ (∀ h, (t.contact h) = Contact.atReset (s.contact h).raw)
    ∧ (∀ l, (t.lane l).out = .free ∧ (t.lane l).pendingHalt = false ∧ (t.lane l).resetRaise.isSome = true
        ∧ (t.lane l).nextTag = (s.lane l).nextTag ∧ (t.lane l).silent = (s.lane l).silent)
    ∧ t.alc = LaneConfig.atReset ∧ t.bus.cba = 0 ∧ t.bus.window = none ∧ t.pending = s.pending

/-- A device reset gives every item its reset value at once, the lanes among them; RESET_N low holds the part there, and its
return to high ends that (R101, R176). Reads in flight leave the list at once, which is the model's choice
(notes/assumptions/36.md). -/
def Obligations.DeviceResetTaken : Prop :=
  (∀ (s : State) (c : ResetCause), ∃ t, exec (.deviceReset c) s = .next t
    ∧ t.run = RunControl.atReset s.run.guardPin (s.run.resetHeld || decide (c = .resetN)) ∧ t.regs = ⟨0, 0⟩
    ∧ t.evu = EventUnit.atReset ∧ t.fru = FrameUnit.atReset ∧ t.heads = PerHead.fill Head.atReset
    ∧ t.sides = ⟨false, false⟩ ∧ t.lanes = PerHead.fill Lane.atReset ∧ t.men = Engine.atReset
    ∧ t.plr = PlanReader.atReset ∧ t.window = [] ∧ t.tmb = ⟨0, 0⟩ ∧ t.bus.reads = [] ∧ t.bus.writes = []
    ∧ t.ctm.code = 7 ∧ (∀ h, (t.contact h) = Contact.atReset (s.contact h).raw)
    ∧ t.alc = LaneConfig.atReset ∧ t.bus.cba = 0 ∧ t.bus.window = none ∧ t.bus.msiEnable = s.bus.msiEnable
    ∧ t.stallLimit = 0 ∧ t.park = none ∧ t.reload = none ∧ t.pending = s.pending) ∧
  (∀ s : State, exec .resetNRelease s = .next { s with run := { s.run with resetHeld := false } })

/-! ### The other registers -/

/-- The plain register writes: CBA_LO and CBA_HI are taken at rest and ignored otherwise, a write that reaches no writable
register changes nothing, CLEAR_OVERFLOW clears overflow and nothing else, and a change of the message enable is only that
(R163, R184, R189, R195). -/
def Obligations.PlainWrites : Prop :=
  (∀ (s : State) (v : Word), s.run.resetHeld = false → s.run.state.atRest = true →
    exec (.cbaLoWrite v) s = .next { s with regs := { s.regs with cbaLo := v }, due := Due.none }
      ∧ exec (.cbaHiWrite v) s = .next { s with regs := { s.regs with cbaHi := v }, due := Due.none })
  ∧ (∀ (s : State) (v : Word), s.run.state.atRest = false →
    exec (.cbaLoWrite v) s = .next s ∧ exec (.cbaHiWrite v) s = .next s)
  ∧ (∀ (s : State) (o : BitVec 12) (w : Nat) (v : BitVec 64), (Instr.registerWriteOther o w v).wellFormed = true →
    exec (.registerWriteOther o w v) s = .next s)
  ∧ (∀ s : State, s.run.resetHeld = false →
    exec .clearOverflow s = .next { s with evu := { s.evu with overflow := false }, due := Due.none })
  ∧ (∀ (s : State) (on : Bool), exec (.msiEnableChange on) s = .next { s with bus := { s.bus with msiEnable := on } })

/-- A write to EVENTS clears the flags written as 1 and leaves the others, and sends no message (R163, R186, R188). -/
def Obligations.EventsCleared : Prop :=
  ∀ (s : State) (v : Word), s.run.resetHeld = false →
    exec (.eventsWrite v) s = .next
      { s with evu := { s.evu with events := s.evu.events &&& ~~~(v.setWidth 8) }, due := Due.none }

/-- A write to EVENT_ENABLE replaces the enables, and one message joins the host writes when the interrupt condition rises
(R187, R188). That the function's enable is judged on the event of the rise, and that the queued message stands with address, length
and data 0, are the model's choices (notes/assumptions/51.md, 52.md). -/
def Obligations.EnablesWritten : Prop :=
  ∀ (s : State) (v : Word), s.run.resetHeld = false →
    exec (.eventEnableWrite v) s = .next
      { s with
        evu := { s.evu with enables := v.setWidth 8 }
        bus :=
          if s.evu.events &&& s.evu.enables = 0#8 ∧ s.evu.events &&& v.setWidth 8 ≠ 0#8 ∧ s.bus.msiEnable = true then
            { s.bus with
              writes := s.bus.writes ++ [⟨s.bus.nextWrite, .message, 0, 0, 0⟩], nextWrite := s.bus.nextWrite + 1 }
          else s.bus
        due := Due.none }

/-- What the host reads. TOP_EVENT is the lowest code of a flag that is set and enabled, and 0 exactly when there is none (R187).
ID is the part code 0x4C38 with revision 1, CBA_LO and CBA_HI what was written, COMMAND 0, STATE the run state, the filtered guard
level, the OPEN bits, the log overflow and the number of entries in the window at their places, EVENTS and EVENT_ENABLE the flags;
every other offset reads 0, and a read of any width returns the bytes of the registers it covers (R163, R195). A read is a function
of the state and leaves none behind, so it has no side effect. -/
def Obligations.TopEventIsHighest : Prop :=
  (∀ events enables : BitVec 8,
    (topEvent events enables = 0 ↔ events &&& enables = 0#8)
      ∧ ∀ i : Nat, topEvent events enables = i + 1 →
        i < 8 ∧ (events &&& enables).getLsbD i = true ∧ ∀ j < i, (events &&& enables).getLsbD j = false)
  ∧ (∀ s : State,
    s.readRegister 0x00 = 0x00014C38#32 ∧ s.readRegister 0x04 = s.regs.cbaLo ∧ s.readRegister 0x08 = s.regs.cbaHi
    ∧ s.readRegister 0x0C = 0 ∧ s.readRegister 0x14 = s.evu.events.setWidth 32
    ∧ s.readRegister 0x18 = s.evu.enables.setWidth 32
    ∧ (s.readRegister 0x1C).toNat = topEvent s.evu.events s.evu.enables
    ∧ (∀ o, 0x20 ≤ o → s.readRegister o = 0)
    ∧ (s.window.length ≤ 16 →
        let v := (s.readRegister 0x10).toNat
        v % 8 = (match s.run.state with
          | .idle => 0 | .loading => 1 | .running => 2 | .draining => 3 | .stopped => 4 | .guarded => 5 | .faulted => 6)
        ∧ v / 2 ^ 3 % 2 = (if s.run.guardOpen = true then 1 else 0) ∧ v / 2 ^ 4 % 2 = (if s.sides.top = true then 1 else 0)
        ∧ v / 2 ^ 5 % 2 = (if s.sides.bottom = true then 1 else 0) ∧ v / 2 ^ 6 % 2 = (if s.evu.overflow = true then 1 else 0)
        ∧ v / 2 ^ 7 % 2 = 0 ∧ v / 2 ^ 8 = s.window.length)
    ∧ ∀ (o w i : Nat), i < w → (s.readRegisterBytes o w)[i]? =
        some ((s.readRegister (4 * ((o + i) / 4))).extractLsb' (8 * ((o + i) % 4)) 8)
      ∧ (s.readRegisterBytes o w).length = w)

/-! ### Inputs, filters and landing windows -/

/-- With a nonzero filter code a sampled level moves the filter timer only: it starts on a difference, runs on, and stops on a
return. With filter code 0 the filtered level follows a sample that differs from it at once: all that follows on the event, a
guard trip or a contact recognition among it, is what the filter's expiry brings with that level (`GuardFilterQuiet`,
`GuardTripGuards`, `ContactRecognised`); a sample equal to it changes nothing else (R103, R172). -/
def Obligations.LevelsSampled : Prop :=
  (∀ (s : State) (high : Bool), s.run.resetHeld = false → s.run.guardCode ≠ 0 →
    exec (.guardInputChange high) s = .next
      { s with
        run := { s.run with
          guardPin := high
          guardTimer :=
            if (high == s.run.polarity) = s.run.guardOpen then none
            else if s.run.guardTimer.isSome = true then s.run.guardTimer else some 0 }
        due := Due.none }) ∧
  (∀ (s : State) (h : HeadId) (made : Bool), s.run.resetHeld = false → s.ctm.code ≠ 0 →
    exec (.contactSenseChange h made) s = .next
      (s.modContact h fun c =>
        { c with
          raw := made
          timer := if made = c.filtered then none else if c.timer.isSome = true then c.timer else some 0 }).finish) ∧
  (∀ (s : State) (high : Bool), s.run.resetHeld = false → s.run.guardCode = 0 →
    ((high == s.run.polarity) = s.run.guardOpen → s.Settled →
      exec (.guardInputChange high) s = .next
        { s with run := { s.run with guardPin := high, guardTimer := none }, due := Due.none })
    ∧ ((high == s.run.polarity) ≠ s.run.guardOpen →
      exec (.guardInputChange high) s =
        exec .guardFilterExpiry { s with run := { s.run with guardPin := high, guardTimer := some 0 } })) ∧
  (∀ (s : State) (h : HeadId) (made : Bool), s.run.resetHeld = false → s.ctm.code = 0 →
    (made = (s.contact h).filtered → s.Settled →
      exec (.contactSenseChange h made) s = .next (s.modContact h fun c => { c with raw := made, timer := none }).finish)
    ∧ (made ≠ (s.contact h).filtered →
      exec (.contactSenseChange h made) s =
        exec (.contactFilterExpiry h) (s.modContact h fun c => { c with raw := made, timer := some 0 })))

/-- The guard filter's expiry where no run is to be stopped: a change to closed sets no event, and a change to open in IDLE,
FAULTED and GUARDED sets GUARD_OPEN only: no record is made, and a GUARDED part stays so with its resume target (R172, R173). -/
def Obligations.GuardFilterQuiet : Prop :=
  ∀ s : State, s.Settled → s.run.guardTimer.isSome = true →
    ((s.run.guardPin == s.run.polarity) = false →
      exec .guardFilterExpiry s = .next
        { s with run := { s.run with guardOpen := false, guardTimer := none }, due := Due.none })
    ∧ ((s.run.guardPin == s.run.polarity) = true → (s.run.state = .idle ∨ s.run.state = .faulted ∨ s.run.state = .guarded) →
      exec .guardFilterExpiry s = .next
        (({ s with run := { s.run with guardOpen := true, guardTimer := none } } : State).setEvent .guardOpen).finish)

/-- A guard trip out of RUNNING, DRAINING, STOPPED or LOADING: GUARD_OPEN is set and a GUARD_TRIP record, which names the state
left, is submitted; the part is GUARDED with the resume target RUNNING, DRAINING or STOPPED by the state left, and out of LOADING
STOPPED WITHOUT WRITE-BACK; every entry is PENDING or DONE, no control step under way, each head directed to rest, and the engine FREE
if it served a step that was not DONE (R100, R126, R172, R173). Out of LOADING the pending list and the re-read are discarded after the
record has been submitted (R178, R181); that heads at work are directed to rest there, too, is the model's choice
(notes/assumptions/47.md), and so are the order of the event before the record (notes/assumptions/53.md) and that a RAISE for a landed
head waits as its held order while the transmit line of its FREE lane is in use (notes/assumptions/58.md); that a head keeps its state
while its HALT waits for the line is the model's inference (notes/assumptions/10.md). -/
def Obligations.GuardTripGuards : Prop :=
  ∀ (s : State) (target : ResumeTarget), s.run.resetHeld = false → s.run.guardTimer.isSome = true →
    (s.run.guardPin == s.run.polarity) = true →
    (s.run.state, target) ∈ [(RunState.running, ResumeTarget.running), (.draining, .draining), (.stopped, .stopped),
      (.loading, .stoppedNoWriteBack)] → s.LogReachable → s.BlockReachable → (∀ p ∈ s.plr.pages, s.allowed (p.addr + 0x0C) 4 = true) →
    ∃ t, exec .guardFilterExpiry s = .next t ∧ t.run.state = .guarded ∧ t.run.resume = some target
      ∧ t.run.guardOpen = true ∧ t.run.guardTimer = none
      ∧ (∀ e ∈ t.window, e.phase = .pending ∨ e.phase = .done) ∧ t.park = none
      ∧ t.reload = none ∧ t.plr.pollTimer = none ∧ t.evu.events.getLsbD 1 = true
      ∧ (∀ h : HeadId, s.DirectedToRest t h) ∧ s.EngineAtRest t
      ∧ (let u := s.setEvent .guardOpen
         let f : FaultRecord :=
           { kind := .guardTrip, head := none, side := none, seq := 0, idx := none, cause := 0
             detail := BitVec.ofNat 32 s.run.state.code, time := s.tmb.ticks, run := s.run.state }
         let v := (u.takeFault f).evu
         t.evu = if s.run.state = .loading then { v with reread := none, pendingFaults := [] } else v)

/-- A contact filter's expiry. Outside the three recognitions the filtered level takes the raw level and nothing else happens.
On a SETTLING head a made level lands it, with the landing time of its step (R106). On a MOVING head it is contact in travel:
CONTACT_IN_TRAVEL with the GOTO's X, a HALT over the GOTO, and the head LOST at once with what it held, first for a head with no
step, in STOPPED, and then for the head of a point of the only step of the window, which goes into LIFTING with DRIVE_FAILURE
(R18, R47, R103, R108). On a LANDED head an open level is contact loss: the engine lets go of the step, and the head is raised,
for a retouch with cause "lost contact" or, with the budget spent, for the step to lift with CONTACT_LOST (R109, R110, R113). -/
def Obligations.ContactRecognised : Prop :=
  ∀ (s : State) (h : HeadId), s.Settled → (s.contact h).timer.isSome = true →
    (((s.contact h).raw = true → (s.head h).state ≠ .settling ∧ (s.head h).state ≠ .moving) →
      ((s.contact h).raw = false → (s.head h).state ≠ .landed) →
      exec (.contactFilterExpiry h) s = .next
        (s.modContact h fun c => { c with timer := none, filtered := c.raw }).finish)
    ∧ (∀ (p : Pos) (n : PointName), (s.contact h).raw = true → (s.head h).state = .settling →
      (s.head h).assigned = some p → (s.head h).serving = some (.point n) → s.men.phase ≠ .free →
      exec (.contactFilterExpiry h) s = .next
        (((s.modContact h fun c => { c with timer := none, filtered := c.raw, window := none }).modHead h fun x =>
          { x with state := .landed }).modEntry p fun e =>
            { e.modPoint n (fun q => { q with phase := .landed }) with landingTime := s.tmb.ticks }).finish)
    ∧ (∀ o : SentOrder, s.Resting → s.LogReachable → (s.contact h).raw = true → (s.head h).state = .moving →
      (s.head h).assigned = none → (s.lane h).out = .order o → o.kind = .goto → (s.lane h).txTimer = none →
      exec (.contactFilterExpiry h) s = .next
        ((((s.takeFault (s.headFault .contactInTravel h 0 o.arg1)).modContact h fun c =>
          { c with timer := none, filtered := c.raw }).modLane h fun q =>
            q.haltOver o s.alc.raiseTimeout (s.head h).held true).modHead h fun x =>
              { x with
                state := .lost
                heldOrder := if x.heldOrder = some .home then some .home else none }).finish)
    ∧ (∀ (o : SentOrder) (e : Entry) (n : PointName) (g : HeadId), s.LogReachable → s.window = [e] → e.phase = .granted →
      (s.contact h).raw = true → (s.head h).state = .moving → (s.head h).assigned = some e.pos →
      (s.head h).serving = some (.point n) → (s.lane h).out = .order o → o.kind = .goto → (s.lane h).txTimer = none →
      g ≠ h → (s.head g).assigned = some e.pos → (s.head g).state ≠ .lost →
      ∃ t q, exec (.contactFilterExpiry h) s = .next t ∧ (t.head h).state = .lost ∧ (t.head h).held = (s.head h).held
        ∧ t.lane h = (s.lane h).haltOver o s.alc.raiseTimeout (s.head h).held true
        ∧ t.window = [q] ∧ q.phase = .lifting ∧ q.verdict = (e.verdict <|> some .driveFailure)
        ∧ (q.point n).phase = .failed ∧ t.run = s.run
        ∧ t.evu = (s.takeFault (s.headFault .contactInTravel h 0 o.arg1)).evu)
    ∧ (∀ (e : Entry) (n : PointName), s.window = [e] → e.phase = .granted → n ∈ e.points →
      (s.contact h).raw = false → (s.head h).state = .landed → (s.head h).assigned = some e.pos →
      (s.head h).serving = some (.point n) → (s.lane h).out = .free → (s.lane h).txTimer = none →
      let men :=
        if s.men.served = some e.pos then
          { s.men with served := none, phase := .free, attempts := [], settle := none, matrix := none, source := none }
        else s.men
      ((e.point n).used < reqRetries e.request →
        exec (.contactFilterExpiry h) s = .next
          ((((({ s with men := men } : State).modContact h fun c =>
            { c with timer := none, filtered := c.raw, window := none }).modLane h fun l =>
              l.issue .raise 0 0 s.alc.raiseTimeout).modHead h fun x => { x with state := .raising }).modEntry e.pos
                fun e =>
                  { e.modPoint n (fun q =>
                      { q with used := q.used + 1, cause := some .lostContact, phase := .retouching }) with
                    flags := { e.flags with retouched := true } }).finish)
      ∧ (reqRetries e.request ≤ (e.point n).used →
        ∃ t q, exec (.contactFilterExpiry h) s = .next t ∧ t.men = men ∧ (t.head h).state = .raising
          ∧ t.lane h = (s.lane h).issue .raise 0 0 s.alc.raiseTimeout ∧ t.window = [q] ∧ q.phase = .lifting
          ∧ q.verdict = (e.verdict <|> some .contactLost) ∧ (q.point n).phase = .failed))

/-- A landing window that runs out on a SETTLING head: RAISE is issued. Where its point still has a retouch, the point is
RETOUCHING with one attempt more, cause "no contact", and the step RETOUCHED; with the budget spent the point has failed, and its
step, the only one of the window, is LIFTING with NO_CONTACT unless a verdict stands (R18, R106, R107, R110, R113). -/
def Obligations.BounceRetouches : Prop :=
  ∀ (s : State) (h : HeadId) (p : Pos) (n : PointName) (e : Entry), s.Settled → (s.contact h).window.isSome = true →
    (s.head h).state = .settling → (s.head h).assigned = some p → (s.head h).serving = some (.point n) →
    s.entry? p = some e → e.phase = .granted → (s.lane h).out = .free → (s.lane h).txTimer = none →
    ((e.point n).used < reqRetries e.request →
      exec (.landingWindowExpiry h) s = .next
        ((((s.modContact h fun c => { c with window := none }).modLane h fun l =>
          l.issue .raise 0 0 s.alc.raiseTimeout).modHead h fun x => { x with state := .raising }).modEntry p fun e =>
            { e.modPoint n (fun q => { q with used := q.used + 1, cause := some .noContact, phase := .retouching }) with
              flags := { e.flags with retouched := true } }).finish)
    ∧ (reqRetries e.request ≤ (e.point n).used → s.window = [e] → n ∈ e.points →
      ∃ t q, exec (.landingWindowExpiry h) s = .next t ∧ t.head h = { s.head h with state := .raising }
        ∧ t.lane h = (s.lane h).issue .raise 0 0 s.alc.raiseTimeout ∧ (t.contact h).window = none
        ∧ t.window = [q] ∧ q.phase = .lifting ∧ q.verdict = (e.verdict <|> some .noContact)
        ∧ (q.point n).phase = .failed ∧ (q.point n).used = (e.point n).used ∧ t.men = s.men.abandoned p ∧ t.run = s.run)

/-! ### The measurement engine -/

/-- The course of a measurement. A FREE engine takes the oldest LANDED step: it is served with the connection of its kind and the
compliance level of its code, and its first attempt begins at the starting range with its settle, or for a settle of 0 with the phase
after it; a settled state leaves no LANDED step to a FREE engine (R118-R122, R128). The plain events of a served attempt: the
settle's end opens INTEGRATE, or CHARGE with the source on and the start tick recorded; a sample short of the last joins the sum,
saturated; a compliance flag in INTEGRATE sets the mark (R122-R125). -/
def Obligations.AttemptGoesOn : Prop :=
  (∀ (s : State) (e : Entry) (kind : StepKind), s.Settled → s.servedStep = some (e, kind) →
    (s.men.settle.isSome = true → kind ≠ .cap →
      exec .settleExpiry s = .next
        { s with men := { s.men with phase := .integrate, settle := none, sampleTimer := 0 }, due := Due.none })
    ∧ (s.men.settle.isSome = true → kind = .cap →
      exec .settleExpiry s = .next
        { s with
          men := { s.men with phase := .charge, settle := none, chargeStart := s.tmb.ticks, source := some s.men.k }
          due := Due.none })
    ∧ (∀ v : Int, s.men.phase = .integrate → s.men.samples + 1 < reqSamples e.request →
      exec (.adcSample v) s = .next
        { s with
          men := { s.men with
            samples := s.men.samples + 1
            sum := s.men.sum + max (-2000000) (min 2000000 v)
            overMark := s.men.overMark || decide (v < -2000000 ∨ 2000000 < v) }
          due := Due.none })
    ∧ (s.men.phase = .integrate →
      exec .complianceFlag s = .next { s with men := { s.men with complianceMark := true }, due := Due.none }))
  ∧ (∀ s : State,
    (s.men.phase ≠ .free ∨ (∀ q ∈ s.window, s.stepState q ≠ .landed) → s.engineTake = none)
    ∧ (s.Settled → s.men.phase = .free → (∀ q ∈ s.window, q.phase = .granted → q.kind ≠ none) →
        ∀ q ∈ s.window, s.stepState q ≠ .landed)
    ∧ ∀ (front back : List Entry) (e : Entry) (kind : StepKind) (ha : HeadId), s.men.phase = .free →
      s.window = front ++ e :: back → (∀ q ∈ front, s.stepState q ≠ .landed) → s.stepState e = .landed →
      e.kind = some kind → e.a.head = some ha →
      let code := if reqCompliance e.request = 0 then s.men.defaultCompliance else reqCompliance e.request
      let len := reqSettle e.request
      ∃ k0, s.engineTake = some
        { s.modEntry e.pos (fun q => { q with attempts := q.attempts + 1 }) with
          men := { s.men with
            served := some e.pos
            attempts := []
            compliance := if code = 15 then 10000 else 2000 + 500 * code
            matrix := some
              ⟨if kind = .res4 then .fourWire else if kind = .diode then .diode else if kind = .cap then .capacitance else .twoWire,
                ha, if kind = .cap then none else e.b.head⟩
            k := k0
            samples := 0
            sum := 0
            overMark := false
            complianceMark := false
            phase := if len ≠ 0 then .settle else if kind = .cap then .charge else .integrate
            settle := if len ≠ 0 then some (0, len) else none
            source := if kind = .cap ∧ len ≠ 0 then none else some k0
            chargeStart := if kind = .cap ∧ len = 0 then s.tmb.ticks else s.men.chargeStart
            sampleTimer := if kind ≠ .cap ∧ len = 0 then 0 else s.men.sampleTimer } }
        ∧ (kind = .res2 ∨ kind = .res4 → k0 ≤ 7 ∧ (reqExpected e.request ≤ 10 ^ (k0 + 7) ∨ k0 = 7)
            ∧ ∀ j < k0, 10 ^ (j + 7) < reqExpected e.request)
        ∧ (kind = .cap → 3 ≤ k0 ∧ k0 ≤ 6 ∧ (reqExpected e.request ≤ 10 ^ (12 - k0) ∨ k0 = 3)
            ∧ ∀ j, k0 < j → j ≤ 6 → 10 ^ (12 - j) < reqExpected e.request)
        ∧ (kind = .cont → k0 = 1) ∧ (kind = .iso → k0 = 7) ∧ (kind = .cal → k0 = 0)
        ∧ (kind = .diode → k0 = reqRange e.request))

/-- The last sample of an attempt. The sample joins the sum, saturated; N is the sum divided by S, rounded half away from zero; the
outcome is OVER if a sample saturated, otherwise compliant if the mark is set, otherwise in range (R123). An evaluation that calls for a
further attempt begins it at once at the new range, the source on there, with the secondary settle, and the step counts it (R121, R122,
R129). One that accepts delivers: the engine is FREE; the step is LIFTING with the value, the verdict on it, the final range, the clamp
flags, COMPLIANCE_SEEN if an attempt of the measurement had the mark, and RERANGED if there was more than one; each landed head of the
step is raised; and a CAL of at most 10 Ω writes its halves to the lead values of its two heads, which stay as they were otherwise (R19,
R53, R136, R139). What the evaluation gives stands in RerangesBounded, and the verdicts in VerdictsByLimits. -/
def Obligations.LastSampleDelivers : Prop :=
  (∀ (m : Engine) (v : Int),
    let u := m.takeSample v
    let n := u.reading
    u.samples = m.samples + 1 ∧ u.sum = m.sum + max (-2000000) (min 2000000 v)
      ∧ 2 * (n * u.samples - u.sum).natAbs ≤ u.samples
      ∧ (2 * (n * u.samples - u.sum).natAbs = u.samples → u.sum.natAbs < (n * u.samples).natAbs)
      ∧ u.integrated = if m.overMark = true ∨ v < -2000000 ∨ 2000000 < v then .overRange
          else if m.complianceMark = true then .compliant else .inRange)
  ∧ ∀ (s : State) (e : Entry) (kind : StepKind) (v : Int), s.Settled → s.men.phase = .integrate →
    s.servedStep = some (e, kind) → s.men.samples + 1 = reqSamples e.request →
    let u := s.men.takeSample v
    let given := kind.evaluate s.men.attempts u.integrated u.reading s.men.k (s.leadsOf e)
    (∀ k : Nat, kind ≠ .cap → given = .again k →
      exec (.adcSample v) s = .next
        { s.modEntry e.pos (fun q => { q with attempts := q.attempts + 1 }) with
          men := { s.men with
            k := k
            attempts := s.men.attempts ++ [⟨s.men.k, u.integrated, u.reading, s.men.complianceMark⟩]
            samples := 0
            sum := 0
            overMark := false
            complianceMark := false
            phase := if s.men.secondarySettle = 0 then .integrate else .settle
            settle := if s.men.secondarySettle = 0 then none else some (0, s.men.secondarySettle)
            sampleTimer := if s.men.secondarySettle = 0 then 0 else s.men.sampleTimer
            source := some k }
          due := Due.none })
    ∧ ∀ (x : Nat) (hi lo : Bool) (h : HeadId), given = .value x hi lo →
      (s.head h).assigned = some e.pos → (s.head h).state = .landed → (∀ q ∈ s.window, s.stepState q ≠ .landed) →
      ∃ t, exec (.adcSample v) s = .next t
        ∧ s.Delivers t e kind x hi lo (s.men.attempts.any (·.complianceMark) || s.men.complianceMark)
        ∧ (∀ ha hb : HeadId, kind = .cal → x ≤ 10000000 → e.a.head = some ha → e.b.head = some hb → ha ≠ hb →
            (t.head ha).lead = x / 2 ∧ (t.head hb).lead = x - x / 2
              ∧ ∀ g, g ≠ ha → g ≠ hb → (t.head g).lead = (s.head g).lead)
        ∧ (kind ≠ .cal ∨ 10000000 < x → ∀ g, (t.head g).lead = (s.head g).lead)

/-- The end of a charge. It leads to a further attempt where none crossed above k = 3, or where it was short or compliant below k = 6
with no bar from an earlier attempt, and where re-ranges are left: the next attempt begins at once with the secondary settle, and the
step counts it (R121, R122, R125, R134). Otherwise it delivers: with no crossing, or compliant, the clamp of the range with HIGH_CLAMP;
on a crossing, or a short one that is barred, the ticks times the range's fF (R134, R135, R139). A count beyond the window is no crossing,
which is the model's inference (notes/assumptions/13.md, 32.md); that a crossing at 16,777,215 is accepted, where R135 has an accepted C
lie below the clamp, is the model's choice (notes/assumptions/32.md). -/
def Obligations.ChargeReranges : Prop :=
  ∀ (s : State) (e : Entry), s.Settled → s.servedStep = some (e, .cap) → s.men.phase = .charge →
    let more := s.men.attempts.length < 3
    let up := s.men.k < 6 ∧ more ∧ ∀ a ∈ s.men.attempts, a.k = s.men.k + 1 → a.outcome ≠ .noCrossing
    let down := 3 < s.men.k ∧ more
    let sec := s.men.secondarySettle
    let again (m : Engine) (o : AttemptOutcome) (n : Int) (k : Nat) : State :=
      { s.modEntry e.pos (fun q => { q with attempts := q.attempts + 1 }) with
        men := { m with
          k := k
          attempts := m.attempts ++ [⟨m.k, o, n, m.complianceMark⟩]
          samples := 0
          sum := 0
          overMark := false
          complianceMark := false
          phase := if sec = 0 then .charge else .settle
          settle := if sec = 0 then none else some (0, sec)
          chargeStart := if sec = 0 then s.tmb.ticks else m.chargeStart
          source := if sec = 0 then some k else none }
        due := Due.none }
    let count (capture : Tick) : Nat := (capture - s.men.chargeStart).toNat
    let clamp := 16777215 * 10 ^ (6 - s.men.k)
    let seen := s.men.attempts.any (·.complianceMark) || s.men.complianceMark
    (down → exec .chargeTimeout s = .next (again s.men .noCrossing 0 (s.men.k - 1)))
    ∧ (∀ capture : Tick, 16777215 < count capture → down →
      exec (.chargeCrossing capture) s = .next (again { s.men with capture := capture } .noCrossing 0 (s.men.k - 1)))
    ∧ (∀ capture : Tick, count capture < 1000 → up →
      exec (.chargeCrossing capture) s = .next
        (again { s.men with capture := capture } .short (count capture : Nat) (s.men.k + 1)))
    ∧ (up → exec .complianceFlag s = .next (again { s.men with complianceMark := true } .compliant 0 (s.men.k + 1)))
    ∧ ∀ h : HeadId, (s.head h).assigned = some e.pos → (s.head h).state = .landed →
      (∀ q ∈ s.window, s.stepState q ≠ .landed) →
      (¬down → ∃ t, exec .chargeTimeout s = .next t ∧ s.Delivers t e .cap clamp true false seen)
      ∧ (∀ capture : Tick, 16777215 < count capture → ¬down →
        ∃ t, exec (.chargeCrossing capture) s = .next t ∧ s.Delivers t e .cap clamp true false seen)
      ∧ (∀ capture : Tick, (1000 ≤ count capture ∧ count capture ≤ 16777215) ∨ (count capture < 1000 ∧ ¬up) →
        ∃ t, exec (.chargeCrossing capture) s = .next t
          ∧ s.Delivers t e .cap (count capture * 10 ^ (6 - s.men.k)) false false seen)
      ∧ (¬up → ∃ t, exec .complianceFlag s = .next t ∧ s.Delivers t e .cap clamp true false true)

/-- What the evaluation of an attempt at range k gives, by kind. RES2 and RES4 go on at k + 1 when over range or compliant and at
k - 1 for a low reading that no earlier overload bars, with at most three re-ranges, and clamp at full scale or are accepted otherwise;
CONT, ISO and CAL clamp or are accepted; an accepted resistance is N x 10^(k+1), less the two leads for RES2 and CONT, and 0 with
LOW_CLAMP where that would be negative; DIODE is N in µV, 0 or 2,000,000; CAP goes down without a crossing and up when short or
compliant, and is ticks x 10^(6-k) or its clamp (R127, R129-R135); for a crossing at 16,777,215 ticks that value is the clamp's, without
the flag, which is the model's choice (notes/assumptions/32.md). A further attempt is at a neighbouring range, within 0-7 and
for CAP within 3-6. -/
def Obligations.RerangesBounded : Prop :=
  (∀ (kind : StepKind) (earlier : List Attempt) (o : AttemptOutcome) (n : Int) (k leads k' : Nat),
    kind.evaluate earlier o n k leads = .again k' →
      earlier.length < 3 ∧ (k' = k + 1 ∨ k = k' + 1) ∧ (kind = .res2 ∨ kind = .res4 ∨ kind = .cap)
        ∧ (kind ≠ .cap → k ≤ 7 → k' ≤ 7) ∧ (kind = .cap → 3 ≤ k → k ≤ 6 → 3 ≤ k' ∧ k' ≤ 6))
  ∧ (∀ (earlier : List Attempt) (o : AttemptOutcome) (n : Int) (k leads : Nat),
    let overload := o = .overRange ∨ o = .compliant
    let full := 2000000 * 10 ^ (k + 1)
    let raw := n.toNat * 10 ^ (k + 1)
    let more := earlier.length < 3
    let accepted (kind : StepKind) (less : Nat) : Prop :=
      (n < 0 → kind.evaluate earlier o n k leads = .value 0 false true)
      ∧ (0 ≤ n → less ≤ raw → kind.evaluate earlier o n k leads = .value (raw - less) false false)
      ∧ (0 ≤ n → raw < less → kind.evaluate earlier o n k leads = .value 0 false true)
    let ranged (kind : StepKind) (less : Nat) : Prop :=
      let low := n.natAbs < 100000 ∧ 0 < k ∧ more
        ∧ ∀ a ∈ earlier, a.k = k - 1 → a.outcome ≠ .overRange ∧ a.outcome ≠ .compliant
      (overload → k < 7 → more → kind.evaluate earlier o n k leads = .again (k + 1))
      ∧ (overload → 7 ≤ k ∨ ¬more → kind.evaluate earlier o n k leads = .value full true false)
      ∧ (¬overload → low → kind.evaluate earlier o n k leads = .again (k - 1))
      ∧ (¬overload → ¬low → accepted kind less)
    let fixed (kind : StepKind) (less : Nat) : Prop :=
      (overload → kind.evaluate earlier o n k leads = .value full true false) ∧ (¬overload → accepted kind less)
    ranged .res2 leads ∧ ranged .res4 0 ∧ fixed .cont leads ∧ fixed .iso 0 ∧ fixed .cal 0
    ∧ (overload → StepKind.diode.evaluate earlier o n k leads = .value 2000000 true false)
    ∧ (¬overload → n < 0 → StepKind.diode.evaluate earlier o n k leads = .value 0 false true)
    ∧ (¬overload → 0 ≤ n → StepKind.diode.evaluate earlier o n k leads = .value n.toNat false false)
    ∧ (let up := k < 6 ∧ more ∧ ∀ a ∈ earlier, a.k = k + 1 → a.outcome ≠ .noCrossing
       let clamp : Evaluation := .value (16777215 * 10 ^ (6 - k)) true false
       (o = .noCrossing → 3 < k → more → StepKind.cap.evaluate earlier o n k leads = .again (k - 1))
       ∧ (o = .noCrossing → k ≤ 3 ∨ ¬more → StepKind.cap.evaluate earlier o n k leads = clamp)
       ∧ (o = .short ∨ o = .compliant → up → StepKind.cap.evaluate earlier o n k leads = .again (k + 1))
       ∧ (o = .compliant → ¬up → StepKind.cap.evaluate earlier o n k leads = clamp)
       ∧ (o = .crossed ∨ (o = .short ∧ ¬up) →
          StepKind.cap.evaluate earlier o n k leads = .value (n.toNat * 10 ^ (6 - k)) false false)))
  ∧ ∀ (s : State) (e : Entry) (ha hb : HeadId), e.a.head = some ha → e.b.head = some hb →
    s.leadsOf e = (s.head ha).lead + (s.head hb).lead

/-- The verdicts of R138, with the guarded limits of R137, and those of CAL: DONE up to 10 Ω and FAIL_HIGH above (R136). -/
def Obligations.VerdictsByLimits : Prop :=
  ∀ (r : BitVec 768) (v : Nat),
    let low := reqLow r
    let high := reqHigh r
    let low' := low + low * reqGuardBand r / 1000
    let high' := high - high * reqGuardBand r / 1000
    (∀ kind : StepKind, kind = .res2 ∨ kind = .res4 ∨ kind = .diode ∨ kind = .cap →
      (kind.judge r v = .failLow ↔ v < low)
        ∧ (kind.judge r v = .failHigh ↔ low ≤ v ∧ high < v)
        ∧ (kind.judge r v = .pass ↔ low ≤ v ∧ v ≤ high ∧ low' ≤ v ∧ v ≤ high')
        ∧ (kind.judge r v = .passMarginal ↔ low ≤ v ∧ v ≤ high ∧ ¬(low' ≤ v ∧ v ≤ high')))
    ∧ (StepKind.cont.judge r v = .failHigh ↔ high < v)
    ∧ (StepKind.cont.judge r v = .pass ↔ v ≤ high')
    ∧ (StepKind.cont.judge r v = .passMarginal ↔ v ≤ high ∧ high' < v)
    ∧ (StepKind.iso.judge r v = .failLow ↔ v < low)
    ∧ (StepKind.iso.judge r v = .pass ↔ low' ≤ v)
    ∧ (StepKind.iso.judge r v = .passMarginal ↔ low ≤ v ∧ v < low')
    ∧ (StepKind.cal.judge r v = .done ↔ v ≤ 10000000) ∧ (StepKind.cal.judge r v = .failHigh ↔ 10000000 < v)

/-! ### The lanes and the heads -/

/-- A REACHED on a MOVING head. Within tolerance on a head with no step, in STOPPED: the head is IDLE at the target, not at the reported
position, and holds its footprint there (R44, R80, R91, R94). Outside tolerance: POSITION_ERROR is submitted with the larger deviation,
and the head is LOST with its reserved sweep, first for a head with no step, in STOPPED, and then for the head of a point of the only
step of the window, which goes into LIFTING with DRIVE_FAILURE (R18, R44, R47, R94, R99). -/
def Obligations.ReachedRests : Prop :=
  ∀ (s : State) (l : HeadId) (o : SentOrder) (x y : Word), s.Receives l → (s.lane l).out = .order o →
    o.kind = .goto → (s.head l).state = .moving → (s.head l).heldOrder = none →
    let dx := (x.toInt - o.arg1.toInt).natAbs
    let dy := (y.toInt - o.arg2.toInt).natAbs
    (s.Resting → (s.head l).assigned = none → dx ≤ s.alc.tolerance → dy ≤ s.alc.tolerance →
      s.mayHold l (s.footprint o.arg1.toInt) = true →
      exec (.reached l o.tag x y) s = .next
        ((s.modLane l Lane.taken).modHead l fun q =>
          { q with
            x := o.arg1.toInt, y := o.arg2.toInt, held := some (s.footprint o.arg1.toInt), state := .idle
            assigned := none, serving := none }).finish)
    ∧ (s.alc.tolerance < max dx dy → s.LogReachable →
      let u := s.takeFault (s.headFault .positionError l 1 (BitVec.ofNat 32 (max dx dy)))
      let lost (q : Head) : Head := { q with state := .lost, assigned := none, serving := none }
      (s.Resting → (s.head l).assigned = none →
        exec (.reached l o.tag x y) s = .next ((u.modLane l Lane.taken).modHead l lost).finish)
      ∧ ∀ (e : Entry) (n : PointName) (g : HeadId), s.Settled → s.window = [e] → e.phase = .granted →
        n ∈ e.points → (s.head l).assigned = some e.pos → (s.head l).serving = some (.point n) → g ≠ l →
        (s.head g).assigned = some e.pos → (s.head g).state ≠ .lost →
        ∃ t q, exec (.reached l o.tag x y) s = .next t ∧ t.head l = lost (s.head l) ∧ t.lane l = (s.lane l).taken
          ∧ t.evu = u.evu ∧ t.run = s.run ∧ t.window = [q] ∧ q.phase = .lifting
          ∧ q.verdict = (e.verdict <|> some .driveFailure) ∧ (q.point n).phase = .failed)

/-- A REACHED within tolerance on the head of a point, with no step waiting for bands: DESCEND goes out on the same event
with the side's descent limit, and the point is DESCENDING (R44, R80, R86, R89). -/
def Obligations.ReachedDescends : Prop :=
  ∀ (s : State) (l : HeadId) (o : SentOrder) (x y : Word) (p : Pos) (n : PointName) (e : Entry),
    s.Settled → s.NoneWaiting → s.Receives l → (s.lane l).out = .order o → o.kind = .goto →
    (s.head l).state = .moving → (s.head l).assigned = some p → (s.head l).serving = some (.point n) →
    (s.head l).heldOrder = none → (s.head l).wearReached = false → s.entry? p = some e → e.phase = .granted →
    (x.toInt - o.arg1.toInt).natAbs ≤ s.alc.tolerance → (y.toInt - o.arg2.toInt).natAbs ≤ s.alc.tolerance →
    s.mayHold l (s.footprint o.arg1.toInt) = true →
    exec (.reached l o.tag x y) s = .next
      (((s.modLane l fun q =>
        q.taken.issue .descend (BitVec.ofNat 32 (s.alc.descentLimit.get l.side)) 0 s.alc.descendTimeout).modHead l fun q =>
          { q with
            x := o.arg1.toInt, y := o.arg2.toInt, held := some (s.footprint o.arg1.toInt)
            state := .descending }).modPoint p n fun q => { q with phase := .descending }).finish

/-- The replies to DESCEND and RAISE. On a head with no step, in STOPPED, with the RAISE held that brought it to rest: TOUCHED
counts a touchdown and BOTTOMED does not, each with the RAISE on the same event; RAISED releases the head to IDLE. On the head of
a point of a step under way, with no RAISE held: TOUCHED counts, and with the filtered level open the head and the point are
SETTLING with a landing window from 0, with it made they are LANDED with the landing time of the step; BOTTOMED is a miss, which
raises the head and begins a retouch while the retries allow one; with the budget spent the point has failed, and its step, the only
one of the window, is LIFTING with NO_CONTACT unless a verdict stands (R18, R43, R45, R50, R91, R95, R105-R107, R110, R113). RAISED on the head
of a retouching point tries the attempt due: with its target in reach, clear of keep-out, and every band of its sweep free and
unpromised or the head's own, the sweep is reserved and the GOTO goes out; an attempt that fails these is consumed, and the next one
is tried on the same event or, with the budget spent, the head is released and the point fails with the verdict of its cause (R39,
R40, R81, R111, R113). RAISED on the last head of a LIFTING step releases it, and the step is DONE with its recorded verdict, its
result handed as two writes (R18, R24). A count that newly reaches the wear limit sets the worn flag and submits HEAD_WORN with the
count, naming the head's step (R51). A TOUCHED with a travel above the maximum counts no touch: it is taken as a FAULT, with the cause
"travel beyond maximum", and the head is LOST (R95, Safety's `OrderFails`). The engine is at work where the point lands. -/
def Obligations.DescentReplies : Prop :=
  (∀ (s : State) (l : HeadId) (o : SentOrder), s.Resting → s.Receives l → (s.lane l).out = .order o →
    (s.head l).assigned = none →
    (∀ travel : Word, o.kind = .descend → (s.head l).state = .descending → (s.head l).heldOrder = some .raise →
      travel.toNat ≤ o.arg1.toNat →
      let count := min ((s.head l).touches + 1) 16777215
      let worn : Bool := decide ((s.head l).wearLimit ≠ 0 ∧ (s.head l).wearLimit ≤ count)
      let rise := worn = true ∧ (s.head l).worn = false
      (rise → s.LogReachable) →
      exec (.touched l o.tag travel) s = .next
        ((((if rise then s.takeFault (s.headFault .headWorn l 0 (BitVec.ofNat 32 count)) else s).modLane l fun q =>
          q.taken.issue .raise 0 0 s.alc.raiseTimeout).modHead l fun q =>
            { q with touches := count, worn := worn, state := .raising, heldOrder := none }).modContact l fun c =>
              { c with window := none }).finish)
    ∧ (o.kind = .descend → (s.head l).state = .descending → (s.head l).heldOrder = some .raise →
      exec (.bottomed l o.tag) s = .next
        (((s.modLane l fun q => q.taken.issue .raise 0 0 s.alc.raiseTimeout).modHead l fun q =>
          { q with state := .raising, heldOrder := none }).modContact l fun c => { c with window := none }).finish)
    ∧ (o.kind = .raise → (s.head l).state = .raising → (s.head l).heldOrder = none →
      exec (.raised l o.tag) s = .next
        ((s.modLane l Lane.taken).modHead l fun q => { q with state := .idle, assigned := none, serving := none }).finish))
  ∧ (∀ (s : State) (l : HeadId) (o : SentOrder) (p : Pos) (n : PointName) (e : Entry), s.Settled → s.Receives l →
    (s.lane l).out = .order o → o.kind = .descend → (s.head l).state = .descending → (s.head l).heldOrder = none →
    (s.head l).assigned = some p → (s.head l).serving = some (.point n) → s.entry? p = some e → e.phase = .granted →
    (∀ travel : Word, travel.toNat ≤ o.arg1.toNat →
      let count := min ((s.head l).touches + 1) 16777215
      let worn : Bool := decide ((s.head l).wearLimit ≠ 0 ∧ (s.head l).wearLimit ≤ count)
      let rise := worn = true ∧ (s.head l).worn = false
      let u := if rise then s.takeFault (s.headFault .headWorn l 0 (BitVec.ofNat 32 count)) else s
      (rise → s.LogReachable ∧ s.NoneWaiting) →
      ((s.contact l).filtered = false →
        exec (.touched l o.tag travel) s = .next
          ((((u.modLane l Lane.taken).modHead l fun q =>
            { q with touches := count, worn := worn, state := .settling }).modContact l fun c =>
              { c with window := some (0, Config.landingWindow s.ctm.code) }).modPoint p n fun q =>
                { q with phase := .settling }).finish)
      ∧ ((s.contact l).filtered = true → s.men.phase ≠ .free →
        exec (.touched l o.tag travel) s = .next
          ((((u.modLane l Lane.taken).modHead l fun q =>
            { q with touches := count, worn := worn, state := .landed }).modContact l fun c =>
              { c with window := none }).modEntry p fun e =>
                { e.modPoint n (fun q => { q with phase := .landed }) with landingTime := s.tmb.ticks }).finish))
    ∧ ((e.point n).used < reqRetries e.request →
      exec (.bottomed l o.tag) s = .next
        ((((s.modLane l fun q => q.taken.issue .raise 0 0 s.alc.raiseTimeout).modHead l fun q =>
          { q with state := .raising }).modContact l fun c => { c with window := none }).modEntry p fun e =>
            { e.modPoint n (fun q => { q with used := q.used + 1, cause := some .noContact, phase := .retouching }) with
              flags := { e.flags with retouched := true } }).finish)
    ∧ (reqRetries e.request ≤ (e.point n).used → s.window = [e] → n ∈ e.points →
      ∃ t q, exec (.bottomed l o.tag) s = .next t ∧ t.head l = { s.head l with state := .raising }
        ∧ t.lane l = (s.lane l).taken.issue .raise 0 0 s.alc.raiseTimeout ∧ (t.contact l).window = none
        ∧ t.window = [q] ∧ q.phase = .lifting ∧ q.verdict = (e.verdict <|> some .noContact)
        ∧ (q.point n).phase = .failed ∧ (q.point n).used = (e.point n).used ∧ t.men = s.men.abandoned p ∧ t.run = s.run))
  ∧ (∀ (s : State) (l : HeadId) (o : SentOrder) (travel : Word), s.LogReachable → s.Receives l → (s.lane l).out = .order o →
    o.kind = .descend → (s.head l).state = .descending → (s.head l).heldOrder ≠ some .home → o.arg1.toNat < travel.toNat →
    ∃ t, exec (.touched l o.tag travel) s = .next t
      ∧ s.OrderFails ((s.takeFault (s.headFault .driveFault l 3 (driveDetail .descend travel))).modLane l Lane.taken) t l
        fun q => { q with state := .lost, heldOrder := none, assigned := none, serving := none })
  ∧ (∀ (s : State) (l : HeadId) (o : SentOrder) (n : PointName) (e : Entry) (aim : Int × Int), s.Settled → s.Receives l →
    (s.lane l).out = .order o → o.kind = .raise → (s.head l).state = .raising → (s.head l).heldOrder = none →
    (s.head l).assigned = some e.pos → (s.head l).serving = some (.point n) → s.entry? e.pos = some e → e.phase = .granted →
    (e.point n).phase = .retouching → (e.point n).target = some aim → 1 ≤ (e.point n).used → (e.point n).used ≤ 3 →
    reqRetries e.request ≤ 3 →
    let delta : Int := reqDelta e.request
    let goal (r : Nat) : Int × Int :=
      if r = 1 then (aim.1 + delta, aim.2) else if r = 2 then (aim.1 - delta, aim.2) else (aim.1, aim.2 + delta)
    let area := s.fru.area.get l.side
    let way (r : Nat) : Range := s.sweep (s.head l).x (goal r).1
    let passes (r : Nat) : Prop :=
      (0 ≤ (goal r).1 ∧ (goal r).1 ≤ area.xmax ∧ 0 ≤ (goal r).2 ∧ (goal r).2 ≤ area.ymax)
      ∧ (∀ k ∈ s.fru.keepOut.get l.side,
          ¬(k.xmin ≤ (goal r).1 ∧ (goal r).1 ≤ k.xmax ∧ k.ymin ≤ (goal r).2 ∧ (goal r).2 ≤ k.ymax))
      ∧ ∀ b, (way r).lo ≤ b → b ≤ (way r).hi →
          match s.holder l.side b with
          | none => s.promised l.side b = false
          | some g => g = l
    let goes (r : Nat) : Prop :=
      exec (.raised l o.tag) s = .next
        (((s.modLane l fun q =>
          q.taken.issue .goto (wordOfInt (goal r).1) (wordOfInt (goal r).2) s.alc.gotoTimeout).modHead l fun q =>
            { q with held := some (way r), state := .moving }).modPoint e.pos n fun q =>
              { q with used := r, retouchTarget := some (goal r) }).finish
    (passes (e.point n).used → s.mayHold l (way (e.point n).used) = true → goes (e.point n).used)
    ∧ (¬passes (e.point n).used → (e.point n).used < reqRetries e.request → passes ((e.point n).used + 1) →
      s.mayHold l (way ((e.point n).used + 1)) = true → goes ((e.point n).used + 1))
    ∧ (¬passes (e.point n).used → reqRetries e.request ≤ (e.point n).used → s.window = [e] →
      (∃ g : HeadId, g ≠ l ∧ (s.head g).assigned = some e.pos ∧ (s.head g).state ≠ .lost) →
      ∃ t q, exec (.raised l o.tag) s = .next t ∧ t.lane l = (s.lane l).taken
        ∧ t.head l = { s.head l with state := .idle, assigned := none, serving := none }
        ∧ t.window = [q] ∧ q.phase = .lifting ∧ (q.point n).phase = .failed ∧ (q.point n).used = (e.point n).used
        ∧ q.verdict = (e.verdict <|> some (if (e.point n).cause = some .lostContact then .contactLost else .noContact))))
  ∧ (∀ (s : State) (l : HeadId) (o : SentOrder) (e : Entry) (v : Verdict), s.Settled → s.Receives l →
    (s.lane l).out = .order o → o.kind = .raise → (s.head l).state = .raising → (s.head l).heldOrder = none →
    (s.head l).assigned = some e.pos → s.window = [e] → e.phase = .lifting → e.verdict = some v → e.written = false →
    (∀ g : HeadId, g ≠ l → (s.head g).assigned = some e.pos → (s.head g).state = .lost) →
    s.allowed (e.addr + 0x62) 30 = true → s.allowed (e.addr + 0x60) 2 = true →
    exec (.raised l o.tag) s = .next
      ({ (s.modLane l Lane.taken).modHead l (fun q => { q with state := .idle, assigned := none, serving := none }) with
        window := [e.finished v s.tmb.ticks]
        bus := { s.bus with
          writes := s.bus.writes ++
            [⟨s.bus.nextWrite, .resultItems e.pos, e.addr + 0x62, 30, resultItems (e.finished v s.tmb.ticks)⟩,
              ⟨s.bus.nextWrite + 1, .resultStatus e.pos, e.addr + 0x60, 2, BitVec.ofNat 256 v.code⟩]
          nextWrite := s.bus.nextWrite + 2 } } : State).finish)

/-- A HOMED on a HOMING head. Within tolerance and with a footprint that passes the band test, the head is IDLE at the reported
position, with its footprint entered: first with no step, in STOPPED, then for an ACTIVE HOME_SIDE with another head of the side still
HOMING. When it is the last of the side, the only step of the window ends: the side OPEN and the step DONE if the other three are IDLE,
and otherwise the side CLOSED as it was and the step with DRIVE_FAILURE, its result handed as two writes (R24, R48, R57, R91). A HOMED
that fails either test makes the head LOST, holding no bands, with POSITION_ERROR and the larger deviation: with no step, in STOPPED, and
as the last of the side, whose step ends with DRIVE_FAILURE (R47, R57, R94); that the writes of the record stand before those of the
step's result is the model's choice (notes/assumptions/57.md). -/
def Obligations.HomedRests : Prop :=
  ∀ (s : State) (l : HeadId) (o : SentOrder) (x y : Word), s.Receives l → (s.lane l).out = .order o →
    o.kind = .home → (s.head l).state = .homing → (s.head l).heldOrder = none →
    let dx := (x.toInt - (s.head l).homeX).natAbs
    let dy := (y.toInt - (s.head l).homeY).natAbs
    let passes := dx ≤ s.alc.tolerance ∧ dy ≤ s.alc.tolerance ∧ s.mayHold l (s.footprint x.toInt) = true
    let last (e : Entry) : Prop := s.Settled ∧ s.window = [e] ∧ e.homes = some l.side ∧ e.written = false
      ∧ s.allowed (e.addr + 0x62) 30 = true ∧ s.allowed (e.addr + 0x60) 2 = true
      ∧ ∀ g : HeadId, g.side = l.side → g ≠ l → (s.head g).state ≠ .homing
    let ended (s' : State) (e : Entry) (v : Verdict) (status : BitVec 256) : State :=
      { s' with
        window := [e.finished v s.tmb.ticks]
        bus := { s'.bus with
          writes := s'.bus.writes ++
            [⟨s'.bus.nextWrite, .resultItems e.pos, e.addr + 0x62, 30, resultItems (e.finished v s.tmb.ticks)⟩,
              ⟨s'.bus.nextWrite + 1, .resultStatus e.pos, e.addr + 0x60, 2, status⟩]
          nextWrite := s'.bus.nextWrite + 2 } }
    (passes →
      let s' := (s.modLane l Lane.taken).modHead l fun q =>
        { q with
          x := x.toInt, y := y.toInt, held := some (s.footprint x.toInt), state := .idle, assigned := none
          serving := none }
      (s.Resting → exec (.homed l o.tag x y) s = .next s'.finish)
      ∧ (∀ g : HeadId, s.Settled → s.NoneWaiting → g ≠ l → g.side = l.side → (s.head g).state = .homing →
        (∀ e ∈ s.window, e.phase = .lifting → (s.head l).assigned ≠ some e.pos) →
        exec (.homed l o.tag x y) s = .next s'.finish)
      ∧ (∀ e : Entry, last e →
        ((∀ g : HeadId, g.side = l.side → g ≠ l → (s.head g).state = .idle) →
          exec (.homed l o.tag x y) s = .next
            ({ ended s' e .done 14 with sides := s.sides.set l.side true } : State).finish)
        ∧ ((∃ g : HeadId, g.side = l.side ∧ g ≠ l ∧ (s.head g).state ≠ .idle) →
          exec (.homed l o.tag x y) s = .next (ended s' e .driveFailure 12).finish)))
    ∧ (¬passes → s.LogReachable → (s.head l).held = none →
      let u := ((s.takeFault (s.headFault .positionError l 3 (BitVec.ofNat 32 (max dx dy)))).modLane l Lane.taken).modHead l
        fun q => { q with state := .lost, assigned := none, serving := none }
      (u.head l).held = none
      ∧ (s.Resting → exec (.homed l o.tag x y) s = .next u.finish)
      ∧ (∀ e : Entry, last e → exec (.homed l o.tag x y) s = .next (ended u e .driveFailure 12).finish))

/-- A HALTED. On a HALTING head over a GOTO, with the reported band in the acceptance range and the footprint there free, the
head is IDLE at the reported position; with the footprint there blocked, or the band outside the range, it is LOST with the
range it held, and POSITION_ERROR is submitted with the reported X; over a HOME it is OFFLINE and holds nothing (R46, R47, R80,
R98). A HALT over the GOTO of a head that contact in travel made LOST ends with no record and leaves the head LOST, its
assignment over (R46, R47, R98). Over the GOTO of a head that held no bands, OFFLINE since, any position ends it with no record,
which is the model's choice (notes/assumptions/61.md). -/
def Obligations.HaltedRests : Prop :=
  ∀ (s : State) (l : HeadId) (t : SentHalt) (x y : Word), s.Resting → s.Receives l → (s.lane l).out = .halt t →
    (s.head l).heldOrder = none →
    ((s.head l).state = .halting → ∀ r : Range, t.replaced = .goto → t.accept = some r →
      let inside := r.lo ≤ s.band x.toInt ∧ s.band x.toInt ≤ r.hi
      let lost (cause : Nat) : State :=
        ((s.takeFault (s.headFault .positionError l cause x)).modLane l Lane.taken).modHead l fun q =>
          { q with state := .lost, assigned := none, serving := none }
      (inside → s.mayHold l (s.footprint x.toInt) = true →
        exec (.halted l t.tag x y) s = .next
          ((s.modLane l Lane.taken).modHead l fun q =>
            { q with
              x := x.toInt, y := y.toInt, held := some (s.footprint x.toInt), state := .idle, assigned := none
              serving := none }).finish)
      ∧ (inside → s.mayHold l (s.footprint x.toInt) = false → s.LogReachable →
        exec (.halted l t.tag x y) s = .next (lost 4).finish)
      ∧ (¬inside → t.contact = false → s.LogReachable → exec (.halted l t.tag x y) s = .next (lost 2).finish))
    ∧ ((s.head l).state = .halting → t.replaced = .home →
      exec (.halted l t.tag x y) s = .next
        ((s.modLane l Lane.taken).modHead l fun q =>
          { q with held := none, state := .offline, assigned := none, serving := none }).finish)
    ∧ ((s.head l).state = .lost → t.replaced = .goto →
      exec (.halted l t.tag x y) s = .next
        ((s.modLane l Lane.taken).modHead l fun q => { q with assigned := none, serving := none }).finish)
    ∧ ((s.head l).state = .offline → t.replaced = .goto → t.accept = none →
      exec (.halted l t.tag x y) s = .next (s.modLane l Lane.taken).finish)

/-- REFUSED and FAULT, whatever order they answer: the order is retired, and DRIVE_FAULT is submitted with its cause, the order kind and
the code. A refused GOTO leaves the head IDLE where it was, with its footprint there, and a refused DESCEND or RAISE IDLE with what it
holds; a refused HOME, and a FAULT over any order, make it LOST with what it holds, which for a HOMING head is nothing. What the failure
does to a point, a yield, a PARK or a HOME_SIDE is that of Safety's `OrderFails`; a RAISE that fails ends no point but one that is
being retouched, and leaves the verdict of a LIFTING step (R18, R19, R44, R45, R47, R57, R61, R79, R80, R96, R97, R99). A HALT that the
drive refuses, or that ends in a FAULT, makes a HALTING head LOST with what it holds, and leaves the head that contact in travel made
LOST as it is, its assignment over (R46, R47, R96, R97). That the record's writes stand before those of a HOME_SIDE's result is the model's
choice (notes/assumptions/57.md). -/
def Obligations.DriveRefusals : Prop :=
  ∀ (s : State) (l : HeadId) (code : Word), s.LogReachable → s.Receives l →
    let u (cause : Nat) (k : OrderKind) : State :=
      (s.takeFault (s.headFault .driveFault l cause (driveDetail k code))).modLane l Lane.taken
    let rest (q : Head) : Head := { q with state := .idle, assigned := none, serving := none }
    let lost (q : Head) : Head := { q with state := .lost, heldOrder := none, assigned := none, serving := none }
    (∀ o : SentOrder, (s.lane l).out = .order o → (s.head l).answers o.kind = true →
      ((s.head l).heldOrder = none →
        (o.kind = .goto → s.mayHold l (s.footprint (s.head l).x) = true →
          ∃ t, exec (.refused l o.tag code) s = .next t
            ∧ s.OrderFails (u 1 .goto) t l fun q => rest { q with held := some (s.footprint q.x) })
        ∧ (o.kind = .descend →
          ∃ t, exec (.refused l o.tag code) s = .next t ∧ s.OrderFails (u 1 .descend) t l rest)
        ∧ (o.kind = .raise → (∀ e ∈ s.window, e.phase = .granted → (s.head l).assigned = some e.pos →
            ∀ n, (s.head l).serving = some (.point n) → (e.point n).phase = .retouching) →
          ∃ t, exec (.refused l o.tag code) s = .next t ∧ s.OrderFails (u 1 .raise) t l rest))
      ∧ (o.kind = .home → ∃ t, exec (.refused l o.tag code) s = .next t ∧ s.OrderFails (u 1 .home) t l lost)
      ∧ ((s.head l).heldOrder ≠ some .home →
        ∃ t, exec (.fault l o.tag code) s = .next t ∧ s.OrderFails (u 2 o.kind) t l lost))
    ∧ (∀ h : SentHalt, s.Resting → (s.lane l).out = .halt h → (s.head l).heldOrder = none →
      ((s.head l).state = .halting →
        exec (.refused l h.tag code) s = .next ((u 1 .halt).modHead l lost).finish
        ∧ exec (.fault l h.tag code) s = .next ((u 2 .halt).modHead l lost).finish)
      ∧ ((s.head l).state = .lost → h.replaced = .goto →
        exec (.refused l h.tag code) s = .next
          ((u 1 .halt).modHead l fun q => { q with assigned := none, serving := none }).finish
        ∧ exec (.fault l h.tag code) s = .next
          ((u 2 .halt).modHead l fun q => { q with assigned := none, serving := none }).finish))

/-- A reply that is not taken changes nothing but the receiver and the log: one on a FREE lane, one with another tag than that of
the outstanding order or HALT, and one with its tag whose code does not fit. None is recorded for a silent tag, and any other is a
LATE_REPLY, with the cause "code does not fit" for the outstanding tag and "no outstanding order" otherwise (R91, R92, R99). -/
def Obligations.RepliesDiscarded : Prop :=
  ∀ (s : State) (l : HeadId) (tag : Byte) (a1 a2 : Word) (c : Instr) (k : ReplyKind), s.Settled → s.LogReachable →
    s.Receives l →
    (c, k) ∈ [(Instr.reached l tag a1 a2, ReplyKind.reached), (.touched l tag a1, .touched),
      (.bottomed l tag, .bottomed), (.raised l tag, .raised), (.homed l tag a1 a2, .homed),
      (.halted l tag a1 a2, .halted), (.refused l tag a1, .refused), (.fault l tag a1, .fault)] →
    let untaken : Prop :=
      match (s.lane l).out with
      | .free => True
      | .order o => o.tag ≠ tag ∨ k.fits o.kind = false
      | .halt t => t.tag ≠ tag ∨ k ∉ [ReplyKind.halted, .refused, .fault]
    let cause : Nat :=
      match (s.lane l).out with
      | .free => 1
      | .order o => if o.tag = tag then 2 else 1
      | .halt t => if t.tag = tag then 2 else 1
    untaken →
      ((s.lane l).silent.getLsbD tag.toNat = true →
        exec c s = .next (s.modLane l fun q => { q with receiver := .hunting }).finish)
      ∧ ((s.lane l).silent.getLsbD tag.toNat = false →
        exec c s = .next
          ((s.takeFault (s.headFault .lateReply l cause (codeTagDetail k.code tag))).modLane l fun q =>
            { q with receiver := .hunting }).finish)

/-- The receive line: a damaged frame and a gap inside a frame submit LINK_FRAME with their cause and leave the receiver
waiting for an idle line, which 4 µs of idle end; a start byte opens a frame or joins the one begun (R85, R99). -/
def Obligations.ReceiveLine : Prop :=
  (∀ (s : State) (l : HeadId) (f : BitVec 96), s.Settled → s.LogReachable → (s.lane l).receiver ≠ .waitIdle →
    frameByte f 0 = 0x7E#8 →
    (frameCrc f ≠ frameByte f 11 →
      exec (.damagedFrame l f) s = .next
        ((s.takeFault (s.headFault .linkFrame l 2 ((frameByte f 1).setWidth 32))).modLane l fun q =>
          { q with receiver := .waitIdle }).finish)
    ∧ (frameCrc f = frameByte f 11 → isReplyCode (frameByte f 1) = false →
      exec (.damagedFrame l f) s = .next
        ((s.takeFault (s.headFault .linkFrame l 3 ((frameByte f 1).setWidth 32))).modLane l fun q =>
          { q with receiver := .waitIdle }).finish))
  ∧ (∀ (s : State) (l : HeadId) (bs : List Byte), s.Settled → s.LogReachable → (s.lane l).receiver = .inside bs →
    exec (.frameGapTimeout l) s = .next
      ((s.takeFault (s.headFault .linkFrame l 1 0)).modLane l fun q => { q with receiver := .waitIdle }).finish)
  ∧ (∀ (s : State) (l : HeadId), s.run.resetHeld = false → (s.lane l).receiver = .waitIdle →
    exec (.receiverIdleExpiry l) s = .next (s.modLane l fun q => { q with receiver := .hunting }).finish)
  ∧ (∀ (s : State) (l : HeadId), s.run.resetHeld = false → (s.lane l).receiver = .hunting →
    exec (.laneStartByte l) s = .next (s.modLane l fun q => { q with receiver := .inside [0x7E#8] }).finish)
  ∧ (∀ (s : State) (l : HeadId) (bs : List Byte), s.run.resetHeld = false → (s.lane l).receiver = .inside bs →
    bs.length < 11 →
    exec (.laneStartByte l) s = .next (s.modLane l fun q => { q with receiver := .inside (bs ++ [0x7E#8]) }).finish)

/-- The timer of an outstanding order or HALT expires: the lane is FREE, its tag joins no silent set, and DRIVE_TIMEOUT is submitted
with the kind and tag. The head of the order is LOST with the bands it held, which for a HOMING head is none; what that does to a
point, a yield, a PARK or a HOME_SIDE is that of Safety's `OrderFails` (R18, R47, R57, R61, R79, R88, R93, R99; the order of the writes at the
end of a HOME_SIDE is notes/assumptions/57.md). A HALTING head is LOST with the range it held, over a GOTO its reserved sweep and over a HOME
nothing, and a head that contact in travel made LOST stays so, its assignment over (R46, R93). A HOMING head whose HOME is held behind the
order stays so: its HOME goes out on the event (R43, R56, R93), unless the transmit line has not yet been idle 2 µs (R84): that it stays
held then is the model's choice (notes/assumptions/58.md). -/
def Obligations.TimeoutLoses : Prop :=
  ∀ (s : State) (l : HeadId), s.LogReachable →
    let u (k : OrderKind) (tag : Byte) : State :=
      (s.takeFault (s.headFault .driveTimeout l 0 (codeTagDetail k.code tag))).modLane l fun q =>
        { q with out := .free, pendingHalt := false }
    let lost (q : Head) : Head := { q with state := .lost, heldOrder := none, assigned := none, serving := none }
    (∀ o : SentOrder, (s.lane l).out = .order o →
      ((s.head l).answers o.kind = true → (s.head l).heldOrder ≠ some .home →
        ∃ t, exec (.orderTimeout l) s = .next t ∧ s.OrderFails (u o.kind o.tag) t l lost)
      ∧ (s.Resting → (s.head l).state = .homing → (s.head l).heldOrder = some .home →
        ((s.lane l).txTimer = none →
          exec (.orderTimeout l) s = .next
            (((u o.kind o.tag).modLane l fun q =>
              q.issue .home (wordOfInt (s.head l).homeX) (wordOfInt (s.head l).homeY) s.alc.homeTimeout).modHead l
                fun q => { q with heldOrder := none }).finish)
        ∧ ((s.lane l).txTimer.isSome = true → exec (.orderTimeout l) s = .next (u o.kind o.tag).finish)))
    ∧ (∀ h : SentHalt, s.Resting → (s.lane l).out = .halt h → (s.head l).heldOrder = none →
      ((s.head l).state = .halting →
        exec (.orderTimeout l) s = .next ((u .halt h.tag).modHead l lost).finish)
      ∧ ((s.head l).state = .lost → h.replaced = .goto →
        exec (.orderTimeout l) s = .next
          ((u .halt h.tag).modHead l fun q => { q with assigned := none, serving := none }).finish))

/-- The transmit line has been idle 2 µs. A pending HALT over a GOTO goes out: the GOTO's tag is silent, the HALT takes the next tag,
RAISE's timeout and what the head holds, and the head is HALTING with no held order but a HOME (R84, R89, R90). A HOME held for the line
alone, its lane FREE, goes out on the same event, which is the model's choice (notes/assumptions/58.md). -/
def Obligations.PendingHaltSent : Prop :=
  ∀ (s : State) (l : HeadId), s.Resting →
    (∀ o : SentOrder, (s.lane l).pendingHalt = true → (s.lane l).out = .order o → o.kind = .goto →
      (s.head l).state = .moving →
      exec (.pendingHaltSend l) s = .next
        ((s.modLane l fun q =>
          { q with
            out := .halt { tag := q.nextTag, count := 0, timeout := s.alc.raiseTimeout, replaced := .goto,
                           accept := (s.head l).held, contact := o.contact }
            nextTag := q.nextTag + 1
            silent := (q.silent ||| (1#256 <<< o.tag.toNat)) &&& ~~~(1#256 <<< q.nextTag.toNat)
            pendingHalt := false
            txTimer := some 0 }).modHead l fun x =>
              { x with
                state := .halting
                heldOrder := if x.heldOrder = some .home then some .home else none }).finish)
    ∧ ((s.lane l).pendingHalt = false → (s.lane l).out = .free → (s.head l).heldOrder = some .home →
      exec (.pendingHaltSend l) s = .next
        ((s.modLane l fun q =>
          q.issue .home (wordOfInt (s.head l).homeX) (wordOfInt (s.head l).homeY) s.alc.homeTimeout).modHead l
            fun q => { q with heldOrder := none, state := .homing }).finish)

/-- A lane that has sent the RAISE of a soft reset takes its reset state, every tag silent, with the 2 µs of idle time after the
RAISE's 12 µs still to pass before its next frame (R84, R88, R101); that the lane of R88 keeps that time is the model's
inference (notes/assumptions/40.md). With no LOADING, one with reads still out, or one that waits for another lane still
resetting, that is all. A LOADING whose block has passed its checks and that waited for this lane as the last completes on the
event, by Safety's `afterLoading` (R101, R167; notes/assumptions/20.md, 31.md, 36.md). -/
def Obligations.ResetRaiseEnds : Prop :=
  ∀ (s : State) (l : HeadId), (s.lane l).resetRaise.isSome = true →
    let t : State := s.modLane l fun _ =>
      { out := .free, nextTag := 0, pendingHalt := false, silent := BitVec.allOnes 256, receiver := .hunting,
        txTimer := some 1200, resetRaise := none }
    (s.Settled → s.run.load = none → exec (.softResetRaiseSent l) s = .next t.finish)
    ∧ (∀ ld : Load, s.run.load = some ld →
      (s.Settled → ld.remaining ≠ 0 → exec (.softResetRaiseSent l) s = .next t.finish)
      ∧ (s.Settled → loadFailure ld.cba ld.block = none → (∃ g : HeadId, g ≠ l ∧ (s.lane g).resetRaise.isSome = true) →
        exec (.softResetRaiseSent l) s = .next t.finish)
      ∧ (s.run.resetHeld = false → s.run.state = .loading → s.window = [] → s.park = none → ld.remaining = 0 →
        loadFailure ld.cba ld.block = none → (∀ g : HeadId, g ≠ l → (s.lane g).resetRaise = none) →
        s.LoadsQuietly ld.block →
        exec (.softResetRaiseSent l) s = .next (t.afterLoading ld.cba ld.block)))

/-! ### Host reads, host writes and timers -/

/-- The returns of control-block reads. One that is not the last of its kind is kept: LOADING's in the block at its place, a
RELOAD's with its offset (R17, R165). On LOADING's last read, with a block that passes every check, lanes ready, and no fault or
guard change found on the event, every block takes its contents at once, by Safety's `afterLoading`: the part is RUNNING, and
the header read of the cursor page is out (R26, R54, R104, R142, R148, R167, R172, R181). On a RELOAD's last read its sections
are applied and it is DONE, or, with a field out of range, none is and it ends with BAD_STEP (R17). The reads that LOADING drops
leave the list at once, which is the model's choice (notes/assumptions/36.md), and so is the restart of the filter timers
(notes/assumptions/31.md), and that with a new band geometry a head loses its assigned step and point served and keeps its held
order (notes/assumptions/20.md). -/
def Obligations.BlockReadsKept : Prop :=
  (∀ (s : State) (id i : Nat) (d : Block) (r : HostRead) (ld : Load), s.Settled → s.run.state = .loading →
    s.openRead id = some r → r.purpose = .loading i → s.run.load = some ld → ld.writesAhead = 0 → 1 < ld.remaining →
    exec (.loadingReadReturn id d) s = .next
      { s with
        bus := { s.bus with reads := s.bus.reads.filter fun q => q.id ≠ id }
        run := { s.run with
          load := some { ld with block := ControlBlock.put ld.block i d, remaining := ld.remaining - 1 } }
        due := Due.none }) ∧
  (∀ (s : State) (id off : Nat) (d : Block) (r : HostRead) (k : Reload), s.Settled → s.openRead id = some r →
    r.purpose = .reload off → (∀ q ∈ s.bus.reads, q.id = id → q = r) → s.reload = some k → id ∈ k.out →
    (k.out.filter fun j => j ≠ id) ≠ [] →
    exec (.reloadReadReturn id d) s = .next
      { s with
        bus := { s.bus with reads := s.bus.reads.filter fun q => q.id ≠ id }
        reload := some { k with out := k.out.filter fun j => j ≠ id, got := k.got ++ [(off, d)] }
        due := Due.none }) ∧
  (∀ (s : State) (id i : Nat) (d : Block) (r : HostRead) (ld : Load), s.run.resetHeld = false →
    s.run.state = .loading → s.window = [] → s.park = none → s.openRead id = some r → r.purpose = .loading i →
    s.run.load = some ld → ld.writesAhead = 0 → ld.remaining = 1 → (∀ l : HeadId, (s.lane l).resetRaise = none) →
    let b := ControlBlock.put ld.block i d
    loadFailure ld.cba b = none → s.LoadsQuietly b →
    exec (.loadingReadReturn id d) s = .next
      (({ s with bus := { s.bus with reads := s.bus.reads.filter fun q => q.id ≠ id } } : State).afterLoading ld.cba b)) ∧
  (∀ (s : State) (id off : Nat) (d : Block) (r : HostRead) (k : Reload) (e : Entry), s.Settled →
    s.openRead id = some r → r.purpose = .reload off → (∀ q ∈ s.bus.reads, q.id = id → q = r) → s.reload = some k →
    id ∈ k.out → (k.out.filter fun j => j ≠ id) = [] → s.window = [e] → e.pos = k.pos → e.phase = .active →
    e.written = false → s.allowed (e.addr + 0x62) 30 = true → s.allowed (e.addr + 0x60) 2 = true →
    let b := reloadedBlock (k.got ++ [(off, d)])
    let worn (h : HeadId) : Bool := cbWearLimit b h != 0 && decide (cbWearLimit b h ≤ (s.head h).touches)
    let ended (v : Verdict) (status : BitVec 256) : State :=
      { s with
        reload := none
        window := [e.finished v s.tmb.ticks]
        bus := { s.bus with
          reads := s.bus.reads.filter fun q => q.id ≠ id
          writes := s.bus.writes ++
            [⟨s.bus.nextWrite, .resultItems e.pos, e.addr + 0x62, 30, resultItems (e.finished v s.tmb.ticks)⟩,
              ⟨s.bus.nextWrite + 1, .resultStatus e.pos, e.addr + 0x60, 2, status⟩]
          nextWrite := s.bus.nextWrite + 2 }
        due := Due.none }
    (reloadValid k.mask b = false → exec (.reloadReadReturn id d) s = .next (ended .badStep 13))
    ∧ (reloadValid k.mask b = true →
      (k.mask.testBit 2 = true → ∀ h : HeadId, worn h = true → (s.head h).worn = true) →
      exec (.reloadReadReturn id d) s = .next
        { ended .done 14 with
          fru := if k.mask.testBit 0 = true then { s.fru with keepOut := cbKeepOut b } else s.fru
          alc := if k.mask.testBit 1 = true then
              { gotoTimeout := cbGotoTimeout b, descendTimeout := cbDescendTimeout b, raiseTimeout := cbRaiseTimeout b
                homeTimeout := cbHomeTimeout b, tolerance := cbTolerance b, descentLimit := cbDescent b }
            else s.alc
          stallLimit := if k.mask.testBit 1 = true then cbStallLimit b else s.stallLimit
          men := if k.mask.testBit 1 = true then
              { s.men with secondarySettle := cbSecondarySettle b, defaultCompliance := cbCompliance b }
            else s.men
          heads := if k.mask.testBit 2 = true then
              PerHead.tabulate fun h =>
                { s.head h with enabled := cbEnabled b h, wearLimit := cbWearLimit b h, worn := worn h }
            else s.heads
          plr := if k.mask.testBit 3 = true then
              { s.plr with pollInterval := min (max (cbPollInterval b) 1) 1000 }
            else s.plr }))

/-- What PLR does with page headers and at the fetch point. The header of the cursor page passes its checks: its record is made,
and PLR polls in RUNNING when a growing page offers nothing to take, while in GUARDED a page with records, growing or complete,
stands ready in TAKE, a complete one with the chain point set (R146, R147, R148, R150). A poll's header with nothing new sets
STARVED if the window is empty and the arm is set, and polls again (R150, R151). A header that fails a check is BAD_PAGE with
the cause and value of the first that fails, and the part is FAULTED (R146, R153, R171). In RUNNING, TAKE issues the next
record's read while window and reads are below 16, and moves on to POLL, CHAIN or END when all are taken; CHAIN waits for a page
list below 8, checks the next address, and adds its page and reads its header (R148, R149, R152); that it does so for the
address of a page still in the list, too, is the model's choice (notes/assumptions/62.md). -/
def Obligations.HeaderTaken : Prop :=
  (∀ (s : State) (id : Nat) (d : Block) (r : HostRead), s.Settled → s.openRead id = some r →
    r.purpose = .header false → r.generation = s.plr.generation → s.plr.pages = [] →
    headerSignature d = 0x4C505047 → headerRetired d = 0 →
    (s.run.state = .running → headerComplete d = false → min (headerFilled d) 31 ≤ s.plr.cursorIdx →
      exec (.headerReadReturn id d) s = .next
        { s with
          bus := { s.bus with reads := s.bus.reads.filter fun q => q.id ≠ id }
          plr := { s.plr with
            pages := [⟨s.plr.cursorAddr, headerSequence d, s.plr.cursorIdx, false, 0, s.plr.cursorIdx,
              s.plr.cursorIdx⟩]
            fetch := .poll
            pollTimer := some (0, s.plr.pollInterval) }
          due := Due.none })
    ∧ (s.run.state = .guarded → s.plr.cursorIdx < min (headerFilled d) 31 →
      (headerComplete d = true → headerNext d ≠ 0 →
        (headerNext d).toNat % 4096 = 0 ∧ inWindow s.bus.window (headerNext d) 4096 = true) →
      exec (.headerReadReturn id d) s = .next
        { s with
          bus := { s.bus with reads := s.bus.reads.filter fun q => q.id ≠ id }
          plr := { s.plr with
            pages := [⟨s.plr.cursorAddr, headerSequence d, min (headerFilled d) 31, headerComplete d,
              if headerComplete d = true then headerNext d else 0, s.plr.cursorIdx, s.plr.cursorIdx⟩]
            chain := if headerComplete d = true ∧ headerNext d ≠ 0 then some (headerNext d, headerSequence d + 1)
              else s.plr.chain
            fetch := .take }
          due := Due.none }))
  ∧ (∀ (s : State) (id : Nat) (d : Block) (r : HostRead) (p : Page), s.Settled → s.run.state = .running →
    s.openRead id = some r → r.purpose = .header true → r.generation = s.plr.generation → s.plr.pages = [p] →
    p.complete = false → p.heldCount = p.taken → headerSignature d = 0x4C505047 → headerRetired d = 0 →
    headerSequence d = p.seq → headerComplete d = false → min (headerFilled d) 31 ≤ p.taken →
    let t : State :=
      { s with
        bus := { s.bus with reads := s.bus.reads.filter fun q => q.id ≠ id }
        plr := { s.plr with fetch := .poll, pollTimer := some (0, s.plr.pollInterval) } }
    exec (.headerReadReturn id d) s = .next
      (if s.window = [] ∧ s.plr.starvedArm = true then
        ({ t with plr := { t.plr with starvedArm := false } } : State).setEvent .starved
      else t).finish)
  ∧ (∀ (s : State) (id : Nat) (d : Block) (r : HostRead) (poll : Bool) (cause : Nat) (value : Word), s.run.resetHeld = false →
    (s.run.state = .running ∨ s.run.state = .draining ∨ s.run.state = .guarded) → s.openRead id = some r →
    r.purpose = .header poll → r.generation = s.plr.generation → s.BlockReachable →
    let next := headerNext d
    let chained := headerComplete d = true ∧ next ≠ 0
    (if headerSignature d ≠ 0x4C505047 then some (1, BitVec.ofNat 32 (headerSignature d))
      else if headerRetired d ≠ 0 then some (2, BitVec.ofNat 32 (headerRetired d))
      else if ∃ p, s.fetchPage = some p ∧ headerSequence d ≠ p.seq then some (3, headerSequence d)
      else if chained ∧ next.toNat % 4096 ≠ 0 then some (4, next.setWidth 32)
      else if chained ∧ inWindow s.bus.window next 4096 = false then some (5, next.setWidth 32)
      else none) = some (cause, value) →
    let f : FaultRecord :=
      { kind := .badPage, head := none, side := none
        seq := match s.fetchPage with | some p => p.seq | none => headerSequence d
        idx := none, cause := cause, detail := value, time := s.tmb.ticks, run := s.run.state }
    ∃ t, exec (.headerReadReturn id d) s = .next t ∧ t.run.state = .faulted ∧ t.window = [] ∧ t.plr.pages = []
      ∧ t.evu = { (s.takeFault f).evu with events := (s.takeFault f).evu.events ||| 0x01#8 })
  ∧ (∀ (s : State) (p : Page), s.run.state = .running → s.fetchPage = some p →
    (s.plr.fetch = .take → p.taken < p.heldCount → s.window.length + s.recordReads.length < 16 →
      s.allowed (p.addr + BitVec.ofNat 64 (128 * (p.taken + 1))) 128 = true →
      let after : FetchState :=
        if p.taken + 1 < p.heldCount then .take
        else if p.complete = false then .poll else if p.next ≠ 0 then .chain else .planEnd
      s.fetchStep = some
        { s with
          bus := { s.bus with
            reads := s.bus.reads ++ [⟨s.bus.nextRead, .record ⟨p.seq, p.taken⟩,
              p.addr + BitVec.ofNat 64 (128 * (p.taken + 1)), s.plr.generation, 0, none⟩]
            nextRead := s.bus.nextRead + 1 }
          plr := { s.plr with
            pages := s.plr.pages.dropLast ++ [{ p with taken := p.taken + 1 }]
            fetch := after
            pollTimer := if after = .poll then some (0, s.plr.pollInterval) else s.plr.pollTimer } })
    ∧ (s.plr.fetch = .take → p.taken < p.heldCount → 16 ≤ s.window.length + s.recordReads.length → s.fetchStep = none)
    ∧ (∀ (next : Addr) (seq : Word), s.plr.fetch = .chain → s.plr.chain = some (next, seq) →
      let bad (cause : Nat) : FaultRecord :=
        { kind := .badPage, head := none, side := none, seq := seq, idx := none, cause := cause, detail := next.setWidth 32
          time := s.tmb.ticks, run := s.due.runBefore }
      (8 ≤ s.plr.pages.length → s.fetchStep = none)
      ∧ (s.plr.pages.length < 8 → next.toNat % 4096 = 0 → inWindow s.bus.window next 4096 = true →
        s.fetchStep = some
          { s with
            bus := { s.bus with
              reads := s.bus.reads ++ [⟨s.bus.nextRead, .header false, next, s.plr.generation, 0, none⟩]
              nextRead := s.bus.nextRead + 1 }
            plr := { s.plr with
              pages := s.plr.pages ++
                [{ addr := next, seq := seq, heldCount := 0, complete := false, next := 0, taken := 0, retired := 0 }]
              fetch := .header } })
      ∧ (s.plr.pages.length < 8 → next.toNat % 4096 ≠ 0 →
        s.fetchStep = some ((s.takeFault (bad 4)).modDue fun u => { u with faulted := true }))
      ∧ (s.plr.pages.length < 8 → next.toNat % 4096 = 0 → inWindow s.bus.window next 4096 = false →
        s.fetchStep = some ((s.takeFault (bad 5)).modDue fun u => { u with faulted := true }))))

/-- The oldest record read returns in RUNNING, DRAINING or GUARDED. With a status of 0 its step joins the young end of the
window, PENDING with the request adjusted, and with any other status DONE and written, with its request as read; the starved arm
is set, and what the rules call for with the new entry follows on the event (R1, R2, R149, R151, R159). In DRAINING and GUARDED,
and in RUNNING behind an older barrier that is not DONE, the PENDING step stays so, and nothing more happens (R9, R12, R13). The
DONE step stays behind an older one, and behind an empty window it retires at once (R2, R154). The adjustment brings each field
that the kind uses into its range and changes no other byte (R2). -/
def Obligations.RecordEntered : Prop :=
  (∀ (s : State) (id : Nat) (d : Block) (r : HostRead) (rs : List HostRead) (pos : Pos), s.Settled →
    (s.run.state = .running ∨ s.run.state = .draining ∨ s.run.state = .guarded) →
    s.openRead id = some r → r.purpose = .record pos → r.generation = s.plr.generation →
    s.recordReads = r :: rs → (∀ q ∈ rs, q.data = none) → (∀ q ∈ s.bus.reads, q.id = id → q = r) →
    (∀ q ∈ rs, q.id ≠ id) →
    (let entry : Entry :=
      if recordStatus d = 0 then Entry.fresh pos r.addr (adjustRequest (recordRequest d))
      else { Entry.fresh pos r.addr (recordRequest d) with phase := .done, written := true }
     exec (.recordReadReturn id d) s = .next
      (settle followUps
        { s with
          window := s.window ++ [entry]
          bus := { s.bus with reads := s.bus.reads.filter fun q => q.id ≠ id }
          plr := { s.plr with starvedArm := true }
          due := { Due.none with runBefore := s.run.state } }).finish)
    ∧ (recordStatus d = 0 →
      (s.run.state = .running → (∀ q ∈ s.window, q.pos ≠ pos) ∧ ∃ q ∈ s.window, q.phase ≠ .done
        ∧ (reqKind q.request = some .frame ∨ reqKind q.request = some .head ∨ reqKind q.request = some .park
          ∨ reqKind q.request = some .reload)) →
      exec (.recordReadReturn id d) s = .next
        { s with
          window := s.window ++ [Entry.fresh pos r.addr (adjustRequest (recordRequest d))]
          bus := { s.bus with reads := s.bus.reads.filter fun q => q.id ≠ id }
          plr := { s.plr with starvedArm := true }
          due := Due.none })
    ∧ (recordStatus d ≠ 0 → s.window ≠ [] →
      exec (.recordReadReturn id d) s = .next
        { s with
          window := s.window ++ [{ Entry.fresh pos r.addr (recordRequest d) with phase := .done, written := true }]
          bus := { s.bus with reads := s.bus.reads.filter fun q => q.id ≠ id }
          plr := { s.plr with starvedArm := true }
          due := Due.none })
    ∧ (∀ (p : Page) (ps : List Page), recordStatus d ≠ 0 → s.window = [] → s.plr.pages = p :: ps →
      (p.complete = false ∨ p.retired + 1 ≠ p.heldCount) → ¬(s.run.state = .running ∧ s.plr.fetch = .take) →
      exec (.recordReadReturn id d) s = .next
        { s with
          bus := { s.bus with reads := s.bus.reads.filter fun q => q.id ≠ id }
          plr := { s.plr with
            starvedArm := true, cursorIdx := s.plr.cursorIdx + 1, pages := { p with retired := p.retired + 1 } :: ps }
          due := Due.none }))
  ∧ (∀ r : BitVec 768,
    (∀ k : StepKind, reqKind r = some k → k.isMeasurement = true →
      reqRetries (adjustRequest r) = min (reqRetries r) 3
      ∧ reqDelta (adjustRequest r) = min (max (reqDelta r) 10) 500
      ∧ reqCompliance (adjustRequest r) = min (reqCompliance r) 15
      ∧ reqSamples (adjustRequest r) = (if k = .cap then reqSamples r else min (max (reqSamples r) 1) 1024)
      ∧ reqGuardBand (adjustRequest r) = (if k = .cal then reqGuardBand r else min (reqGuardBand r) 500)
      ∧ reqRange (adjustRequest r) = (if k = .diode then min (reqRange r) 7 else reqRange r)
      ∧ ∀ i < 96, i ∉ [0x03, 0x06, 0x07, 0x08, 0x09, 0x0C, 0x0D, 0x0E, 0x0F] →
          fieldNat (adjustRequest r) i 1 = fieldNat r i 1)
    ∧ ((∀ k : StepKind, reqKind r = some k → k.isMeasurement = false) → adjustRequest r = r))

/-- The re-read of the log's index returns with one fault waiting: r is taken if it leaves at most 2^n unread, then the fault
is recorded if there is room, and otherwise overflow is set and it is lost (R183, R184). -/
def Obligations.LogRereadEnds : Prop :=
  ∀ (s : State) (id : Nat) (v : Word) (r : HostRead) (f : FaultRecord), s.Settled → s.openRead id = some r →
    r.purpose = .logIndex → (∀ q ∈ s.bus.reads, q.id = id → q = r) → s.evu.reread = some id →
    s.evu.pendingFaults = [f] → s.evu.overflow = false →
    let read := if (s.evu.writeIdx - v).toNat ≤ 2 ^ s.evu.sizeCode then v else s.evu.readIdx
    let s' : State :=
      { s with
        bus := { s.bus with reads := s.bus.reads.filter fun q => q.id ≠ id }
        evu := { s.evu with readIdx := read, reread := none, pendingFaults := [] } }
    ((s.evu.writeIdx - read).toNat < 2 ^ s.evu.sizeCode →
      s.allowed (logSlot s.evu.base s.evu.sizeCode s.evu.writeIdx) 32 = true →
      exec (.logRereadReturn id v) s = .next (s'.recordFault f).finish)
    ∧ (2 ^ s.evu.sizeCode ≤ (s.evu.writeIdx - read).toNat →
      exec (.logRereadReturn id v) s = .next
        ((({ s' with evu := { s'.evu with overflow := true } } : State).setEvent .logOverflow)).finish)

/-- An access error ends in FAULTED with an empty window and page list: a completion with an error, and a read that has gone out
and found no completion within its time (R144, R166, R171). Outside a LOADING, MEMORY_WINDOW is submitted with cause 2, the low
bits of the address and the step or sequence that the read belongs to, result writes not yet issued are lost, and the write-back
follows them (R21, R144, R158, R179). An error of the log's own re-read sets overflow, with LOG_OVERFLOW unless it was set
before, and loses the pending faults, so that its MEMORY_WINDOW is not recorded (R183, R184). In a LOADING, LOADING ends: there
the empty page list is the model's choice (notes/assumptions/49.md), and so is it that an error of the log's re-read enters
FAULTED there (notes/assumptions/18.md); and that the record of the cursor page's header read names sequence 0 before its header
is known (notes/assumptions/37.md). BIF's own check: an access inside the control block or the window in force is made, and any
other is refused with MEMORY_WINDOW, cause 1, and takes the part to FAULTED (R143); that the addresses are taken as plain
numbers, so that a part of the block that wraps over the end of the address space is outside it, is the model's choice
(notes/assumptions/50.md). -/
def Obligations.AccessErrorsFault : Prop :=
  (∀ (s : State) (id : Nat) (r : HostRead), s.run.resetHeld = false → s.run.state ≠ .faulted → s.openRead id = some r →
    (∃ t, exec (.readErrorCompletion id) s = .next t ∧ t.run.state = .faulted ∧ t.run.resume = none ∧ t.window = []
      ∧ t.plr.pages = [] ∧ t.plr.fetch = .paused ∧ t.evu.events.getLsbD 0 = true
      ∧ (s.run.state = .loading → t.run.load = none) ∧ s.FaultedByRead r t)
    ∧ (s.readIssued r = true →
      ∃ t, exec (.accessErrorTimeout id) s = .next t ∧ t.run.state = .faulted ∧ t.run.resume = none ∧ t.window = []
        ∧ t.plr.pages = [] ∧ t.plr.fetch = .paused ∧ t.evu.events.getLsbD 0 = true
        ∧ (s.run.state = .loading → t.run.load = none) ∧ s.FaultedByRead r t))
  ∧ (∀ (s : State) (a : Addr) (n : Nat), s.allowed a n = true ↔
    (s.bus.cba.toNat ≤ a.toNat ∧ a.toNat + n ≤ s.bus.cba.toNat + 2048)
      ∨ ∃ base limit, s.bus.window = some (base, limit) ∧ base.toNat ≤ a.toNat ∧ a.toNat + n ≤ limit.toNat + 1)
  ∧ (∀ (s : State) (a : Addr) (n : Nat) (data : BitVec 256) (tag : WriteTag) (purpose : ReadPurpose) (step : Option Pos)
      (seq : Word),
    let f (seq : Word) : FaultRecord :=
      { kind := .memoryWindow, head := none, side := none, seq := seq, idx := step.map (·.idx), cause := 1
        detail := a.setWidth 32, time := s.tmb.ticks, run := s.due.runBefore }
    (s.allowed a n = true →
      s.requestWrite tag a n data step =
        { s with
          bus := { s.bus with
            writes := s.bus.writes ++ [⟨s.bus.nextWrite, tag, a, n, data⟩], nextWrite := s.bus.nextWrite + 1 } }
      ∧ s.requestRead purpose a n step seq =
        { s with
          bus := { s.bus with
            reads := s.bus.reads ++ [⟨s.bus.nextRead, purpose, a, s.plr.generation, 0, none⟩]
            nextRead := s.bus.nextRead + 1 } })
    ∧ (s.allowed a n = false →
      s.requestWrite tag a n data step =
        (s.takeFault (f (match step with | some p => p.seq | none => 0))).modDue (fun u => { u with faulted := true })
      ∧ s.requestRead purpose a n step seq = (s.takeFault (f seq)).modDue fun u => { u with faulted := true }))
  ∧ (∀ s : State, s.due.faulted = true → s.run.state ≠ .faulted →
    ∃ t, s.followUp = some t ∧ t.run.state = .faulted ∧ t.window = [])

/-- The poll timer's expiry reads the fetch page's header again (R150). A page that BIF does not let through is refused, with
MEMORY_WINDOW "outside window" and the page's sequence, and the part is FAULTED (R143, R171, R179). That no read but the log's re-read
is left in the list there rests on the model's choices that discarded reads leave it at once (notes/assumptions/36.md) and that the
re-read stays in flight (notes/assumptions/18.md). -/
def Obligations.PollReadsHeader : Prop :=
  (∀ (s : State) (p : Page), s.Settled → s.plr.pollTimer.isSome = true → s.fetchPage = some p →
    s.allowed p.addr 128 = true →
    exec .pollTimerExpiry s = .next
      { s with
        plr := { s.plr with pollTimer := none, fetch := .header }
        bus := { s.bus with
          reads := s.bus.reads ++ [⟨s.bus.nextRead, .header true, p.addr, s.plr.generation, 0, none⟩]
          nextRead := s.bus.nextRead + 1 }
        due := Due.none })
  ∧ (∀ (s : State) (p : Page), s.Settled → s.run.state = .running → s.plr.pollTimer.isSome = true → s.fetchPage = some p →
    s.allowed p.addr 128 = false → s.BlockReachable →
    let f : FaultRecord :=
      { kind := .memoryWindow, head := none, side := none, seq := p.seq, idx := none, cause := 1
        detail := p.addr.setWidth 32, time := s.tmb.ticks, run := .running }
    ∃ t, exec .pollTimerExpiry s = .next t ∧ t.run.state = .faulted ∧ t.window = [] ∧ t.bus.reads.all (·.purpose = .logIndex)
      ∧ t.evu = { (s.takeFault f).evu with events := (s.takeFault f).evu.events ||| 0x01#8 })

/-- The stall timer of the only step of the window runs out while it waits: STEP_STALLED is submitted, with the side of point A,
the step and the limit, and the step is DONE with BLOCKED, its result handed as two writes (R11, R24, R66). That the writes of the
record stand before those of the result is the model's choice (notes/assumptions/57.md). The free choices may be drawn on
(notes/assumptions/8.md). -/
def Obligations.StallBlocks : Prop :=
  ∀ (s : State) (e : Entry) (t : StallTimer), s.Settled → s.LogReachable → s.window = [e] → e.phase = .waiting →
    e.written = false → e.stall = some t → s.allowed (e.addr + 0x62) 30 = true → s.allowed (e.addr + 0x60) 2 = true →
    let u := s.takeFault
      { kind := .stepStalled, head := none, side := some (e.sideOf .a), seq := e.pos.seq, idx := some e.pos.idx, cause := 0
        detail := BitVec.ofNat 32 t.limit, time := s.tmb.ticks, run := s.run.state }
    ∃ cs, exec (.stallTimerExpiry e.pos.seq e.pos.idx) s = .next
      { u with
        window := [e.finished .blocked s.tmb.ticks]
        bus := { u.bus with
          writes := u.bus.writes ++
            [⟨u.bus.nextWrite, .resultItems e.pos, e.addr + 0x62, 30, resultItems (e.finished .blocked s.tmb.ticks)⟩,
              ⟨u.bus.nextWrite + 1, .resultStatus e.pos, e.addr + 0x60, 2, 11⟩]
          nextWrite := u.bus.nextWrite + 2 }
        choices := cs
        due := Due.none }

/-- BIF issues the next write that a step waits for: a result's status sets the written flag, and a MARK's value ends its step,
which is the only one of the window, with the MARK event where its flag asks for one (R14, R24). In RUNNING, DRAINING and GUARDED the
oldest entry, now DONE and written, retires on the event: it leaves the window, and the cursor's index and its page's retired count
rise by 1; an entry behind an older one that is not DONE and written stays (R154). That the command issues the writes before it along
with it is the model's choice (notes/assumptions/6.md); their order is that of R157. -/
def Obligations.TrackedWritesIssued : Prop :=
  ∀ (s : State) (before rest : List HostWrite) (w : HostWrite), s.Settled → s.run.load = none →
    s.bus.writes = before ++ w :: rest → (∀ b ∈ before, b.tracked = false) →
    (∀ p : Pos, s.run.state = .stopped → w.tag = .resultStatus p →
      exec .resultStatusIssued s = .next
        (({ s with bus := { s.bus with writes := rest } } : State).modEntry p fun e => { e with written := true }).finish)
    ∧ ((s.run.state = .running ∧ s.plr.fetch ≠ .take) ∨ (s.run.state = .draining ∧ s.SomeHeadBusy) ∨ s.run.state = .guarded →
      (∀ (e : Entry) (p : Page) (ps : List Page), w.tag = .resultStatus e.pos → s.window = [e] → e.phase = .done →
        s.park = none → s.plr.pages = p :: ps → (p.complete = false ∨ p.retired + 1 ≠ p.heldCount) →
        exec .resultStatusIssued s = .next
          { s with
            window := []
            bus := { s.bus with writes := rest }
            plr := { s.plr with cursorIdx := s.plr.cursorIdx + 1, pages := { p with retired := p.retired + 1 } :: ps }
            due := Due.none })
      ∧ (∀ d e : Entry, w.tag = .resultStatus e.pos → s.window = [d, e] → d.pos ≠ e.pos → e.phase = .done →
        exec .resultStatusIssued s = .next
          { s with window := [d, { e with written := true }], bus := { s.bus with writes := rest }, due := Due.none }))
    ∧ (∀ e : Entry, s.run.state = .running → s.window = [e] → e.phase = .active → e.written = false →
      e.markWrite = some w.id →
      w.tag = .markValue e.pos → s.allowed (e.addr + 0x62) 30 = true → s.allowed (e.addr + 0x60) 2 = true →
      let t : State :=
        { s with
          window := [e.finished .done s.tmb.ticks]
          bus := { s.bus with
            writes := rest ++
              [⟨s.bus.nextWrite, .resultItems e.pos, e.addr + 0x62, 30, resultItems (e.finished .done s.tmb.ticks)⟩,
                ⟨s.bus.nextWrite + 1, .resultStatus e.pos, e.addr + 0x60, 2, 14⟩]
            nextWrite := s.bus.nextWrite + 2 } }
      exec .markValueIssued s = .next (if markInterrupt e.request = true then t.setEvent .mark else t).finish)

/-- A page whose steps have all retired is handed back: a 1 in its retired word, the cursor on the next page with index 0, and
the eight heads' touch counts and leads, in that order, and the next page of the list becomes the cursor page (R55, R155, R157).
That pages are handed back before the oldest entry retires is the model's choice (notes/assumptions/43.md). With the final page,
the same writes are issued, the cursor page becomes 0, and the plan end is due; that BIF issues them on the same event, as far
as no step waits for one of the queue, is the model's choice (notes/assumptions/55.md). In RUNNING and DRAINING the issue of the
last result's status so retires the last step and the final page and ends the plan: the part is STOPPED with the STOPPED event
and no second write-back. A plan end due in GUARDED is held (R154, R156, R170). -/
def Obligations.PageHandedBack : Prop :=
  (∀ (s : State) (p q : Page) (ps : List Page), s.HeadLaw → s.plr.pages = p :: q :: ps → p.complete = true →
    p.retired = p.heldCount → p.next ≠ 0 → q.retired = 0 → s.plr.planLoaded = true → s.BlockReachable →
    s.allowed (p.addr + 0x0C) 4 = true →
    let n := s.bus.nextWrite
    s.retireStep = some
      { s with
        plr := { s.plr with pages := q :: ps, cursorAddr := p.next, cursorIdx := 0 }
        bus := { s.bus with
          writes := s.bus.writes ++
            ([⟨n, .retiredWord, p.addr + 0x0C, 4, 1⟩, ⟨n + 1, .cursor, s.bus.cba + 0x018, 16, p.next.setWidth 256⟩]
              ++ allHeads.map fun h =>
                ⟨n + 2 + h.val, .counts h, s.bus.cba + BitVec.ofNat 64 (0x080 + 32 * h.val + 0x10), 8,
                  BitVec.ofNat 256 ((s.head h).touches + 2 ^ 32 * (s.head h).lead)⟩)
          nextWrite := n + 10 } })
  ∧ (∀ (s : State) (p : Page), s.plr.pages = [p] → p.complete = true → p.retired = p.heldCount → p.next = 0 →
    s.plr.planLoaded = true → s.BlockReachable → s.allowed (p.addr + 0x0C) 4 = true → s.run.load = none →
    (∀ w ∈ s.bus.writes, w.tracked = false) →
    s.retireStep = some
      { s with
        plr := { s.plr with pages := [], cursorAddr := 0, cursorIdx := 0 }
        bus := { s.bus with writes := [], nextWrite := s.bus.nextWrite + 10 }
        due := { s.due with planEnd := true } })
  ∧ (∀ (s : State) (e : Entry) (p : Page) (before rest : List HostWrite) (w : HostWrite), s.run.resetHeld = false →
    (s.run.state = .running ∨ s.run.state = .draining) → s.window = [e] → e.phase = .done → s.park = none →
    s.plr.pages = [p] → p.complete = true → p.retired + 1 = p.heldCount → p.next = 0 → s.plr.planLoaded = true →
    s.BlockReachable → s.allowed (p.addr + 0x0C) 4 = true → s.bus.writes = before ++ w :: rest →
    (∀ b ∈ before, b.tracked = false) → w.tag = .resultStatus e.pos →
    exec .resultStatusIssued s = .next
      (({ s with
        window := []
        plr := { s.plr with pages := [], cursorAddr := 0, cursorIdx := 0, pollTimer := none }
        bus := { s.bus with writes := [], nextWrite := s.bus.nextWrite + 10 }
        run := { s.run with state := .stopped, resume := none, planEndHeld := false } } : State).setEvent .stopped).finish)
  ∧ (∀ s : State, s.due.planEnd = true → s.run.state = .guarded →
    s.planEndDue = some { s with run := { s.run with planEndHeld := true }, due := { s.due with planEnd := false } })

/-! ### Record and frame layouts -/

/-- What ALC reads from a frame is what the frame was formed from: for each of the eight replies, every tag and arguments, the
frame is undamaged, and a lane that receives it acts as on that reply (R84, R85, R87, R194). That a good frame may be spelled as
the command DAMAGED_FRAME at all is the model's choice (notes/assumptions/27.md). -/
def Obligations.FramesReadBack : Prop :=
  ∀ (l : HeadId) (tag : Byte) (a1 a2 : Word) (s : State),
    (∀ k : ReplyKind, frameDamaged (laneFrame k.code tag a1 a2) = false
      ∧ s.receiveFrame l (laneFrame k.code tag a1 a2) = s.receiveReply l k tag a1 a2)
    ∧ exec (.damagedFrame l (laneFrame 0x81 tag a1 a2)) s = exec (.reached l tag a1 a2) s
    ∧ exec (.damagedFrame l (laneFrame 0x82 tag a1 0)) s = exec (.touched l tag a1) s
    ∧ exec (.damagedFrame l (laneFrame 0x83 tag 0 0)) s = exec (.bottomed l tag) s
    ∧ exec (.damagedFrame l (laneFrame 0x84 tag 0 0)) s = exec (.raised l tag) s
    ∧ exec (.damagedFrame l (laneFrame 0x85 tag a1 a2)) s = exec (.homed l tag a1 a2) s
    ∧ exec (.damagedFrame l (laneFrame 0x86 tag a1 a2)) s = exec (.halted l tag a1 a2) s
    ∧ exec (.damagedFrame l (laneFrame 0x8E tag a1 0)) s = exec (.refused l tag a1) s
    ∧ exec (.damagedFrame l (laneFrame 0x8F tag a1 0)) s = exec (.fault l tag a1) s

/-- Every field of a fault record stands at the place and with the code R193 gives it, reserved bytes 0: the kinds 1 to 12, the
head and side or 0xFF, the step index or 0xFFFF, and the run states 0 to 6. -/
def Obligations.FaultRecordReadsBack : Prop :=
  ∀ f : FaultRecord, f.cause < 256 → (∀ i, f.idx = some i → i ≤ 30) →
    let d := faultBytes f
    fieldNat d 0x00 1 = (match f.kind with
        | .configInvalid => 1 | .memoryWindow => 2 | .badPage => 3 | .driveTimeout => 4 | .driveFault => 5
        | .lateReply => 6 | .linkFrame => 7 | .positionError => 8 | .contactInTravel => 9 | .headWorn => 10
        | .stepStalled => 11 | .guardTrip => 12)
      ∧ fieldNat d 0x01 1 = (match f.head with | some h => h.val | none => 0xFF)
      ∧ fieldNat d 0x02 1 = (match f.side with | some .top => 0 | some .bottom => 1 | none => 0xFF)
      ∧ fieldNat d 0x03 1 = f.cause
      ∧ d.extractLsb' 32 32 = f.seq
      ∧ fieldNat d 0x08 2 = (match f.idx with | some i => i | none => 0xFFFF)
      ∧ fieldNat d 0x0A 1 = (match f.run with
        | .idle => 0 | .loading => 1 | .running => 2 | .draining => 3 | .stopped => 4 | .guarded => 5 | .faulted => 6)
      ∧ fieldNat d 0x0B 1 = 0
      ∧ d.extractLsb' 96 32 = f.detail
      ∧ d.extractLsb' 128 48 = f.time
      ∧ fieldNat d 0x16 10 = 0

/-! ### The log, the frame unit, the arbiter and the control steps -/

/-- EVU takes a fault: not with no log in force or under overflow; with room, as the record's write, the index's write, the
index raised and FAULT_LOGGED; while a re-read is out, onto a pending list of at most 8, past which overflow is set; and
otherwise onto the list with a re-read started (R182, R184). -/
def Obligations.FaultTaken : Prop :=
  ∀ (s : State) (f : FaultRecord),
    (s.LogOff → s.takeFault f = s)
    ∧ (s.LogReady →
      s.takeFault f =
        ({ s with
          bus := { s.bus with
            writes := s.bus.writes ++
              [⟨s.bus.nextWrite, .faultRecord, logSlot s.evu.base s.evu.sizeCode s.evu.writeIdx, 32, faultBytes f⟩,
                ⟨s.bus.nextWrite + 1, .logIndex, s.bus.cba + 0x034, 4, (s.evu.writeIdx + 1).setWidth 256⟩]
            nextWrite := s.bus.nextWrite + 2 }
          evu := { s.evu with writeIdx := s.evu.writeIdx + 1 } } : State).setEvent .faultLogged)
    ∧ (s.evu.inForce = true → s.evu.overflow = false → s.evu.reread.isSome = true →
      (s.evu.pendingFaults.length < 8 →
        s.takeFault f = { s with evu := { s.evu with pendingFaults := s.evu.pendingFaults ++ [f] } })
      ∧ (8 ≤ s.evu.pendingFaults.length →
        s.takeFault f = ({ s with evu := { s.evu with overflow := true } } : State).setEvent .logOverflow))
    ∧ (s.evu.inForce = true → s.evu.overflow = false → s.evu.reread = none →
      2 ^ s.evu.sizeCode ≤ (s.evu.writeIdx - s.evu.readIdx).toNat →
      s.takeFault f =
        { s with
          evu := { s.evu with
            pendingFaults := s.evu.pendingFaults ++ [f], reread := some s.bus.nextRead }
          bus := { s.bus with
            reads := s.bus.reads ++ [⟨s.bus.nextRead, .logIndex, s.bus.cba + 0x038, s.plr.generation, 0, none⟩]
            nextRead := s.bus.nextRead + 1 } })

/-- A CAD point goes through rotation, scale and offset to a machine point: each scaled coordinate is the quotient rounded to
the nearest integer, a half going to the greater magnitude, and within R29's bounds the products keep the magnitudes the rules
give; a point outside the CAD range goes nowhere (R30-R33). -/
def Obligations.TransformRounds : Prop :=
  ∀ (t : Transform) (xc yc : Int),
    ((-1000000 ≤ xc ∧ xc ≤ 1000000 ∧ -1000000 ≤ yc ∧ yc ≤ 1000000) →
      ∃ xs ys : Int, transformPoint t xc yc = some (t.ox + xs, t.oy + ys)
        ∧ (let x := if t.mirror = true then -xc else xc
           let xr := x * t.c - yc * t.s
           let yr := x * t.s + yc * t.c
           let num (v : Int) : Int := v * (1000000 + t.kppm)
           let nearest (q n : Int) : Prop :=
             2 * (q * 1048576000000 - n).natAbs ≤ 1048576000000
               ∧ (2 * (q * 1048576000000 - n).natAbs = 1048576000000 → n.natAbs < (q * 1048576000000).natAbs)
           nearest xs (num xr) ∧ nearest ys (num yr)
             ∧ (t.c.natAbs ≤ 1048576 → t.s.natAbs ≤ 1048576 →
                 xr.natAbs ≤ 2097152000000 ∧ yr.natAbs ≤ 2097152000000
                   ∧ (t.kppm.natAbs ≤ 2000 →
                       (num xr).natAbs ≤ 2097152000000 * 1002000 ∧ (num yr).natAbs ≤ 2097152000000 * 1002000))))
    ∧ (¬(-1000000 ≤ xc ∧ xc ≤ 1000000 ∧ -1000000 ≤ yc ∧ yc ≤ 1000000) → transformPoint t xc yc = none)

/-- A cascade ends where the next head holds no band up to the boundary. Otherwise that head yields, to the band c = B - m - 1 of a
leftward and c = B + m + 1 of a rightward cascade from boundary B, and the cascade goes on from the boundary c - m or c + m. Each of its
yields is a head with a standing to yield, on
the cascade's own side of the boundary, that goes to the middle of its yield band; its sweep runs from there to its position with the
margin on both sides, and every band of it is free and promised to no yield group, or held by the head itself or by a head farther
out (R72, R73). A grant with one yield moves the yielded head and leaves the main head where it is, with the stall timer paused
(R75-R77). A yielded head that reaches its target is released to IDLE there with its footprint, a HELD yield that is now clear goes
out, and the last one to reach sends the main heads, one or two, on their way and dissolves the group, which calls for an evaluation of
each side on which it had a head (R66, R67, R78). A failed yield dissolves the group too, detaches the other yields and returns the
step to WAITING with its timer running on, or outside RUNNING to PENDING with no point served left on a head of it (R11, R20, R79,
R83). -/
def Obligations.CascadesClear : Prop :=
  (∀ (s : State) (d : Side) (bound n : Nat), bound ≤ 63 → n ≤ 3 →
    (s.leftCascade d bound n = some [] ↔ n = 0 ∨ ∀ r, (s.head (d.head (n - 1))).held = some r → r.hi < bound)
    ∧ (s.rightCascade d bound n = some [] ↔ n = 0 ∨ ∀ r, (s.head (d.head (4 - n))).held = some r → bound < r.lo)
    ∧ (∀ (y : Yield) (ys : List Yield), s.leftCascade d bound n = some (y :: ys) ↔
      ∃ k r, n = k + 1 ∧ y.head = d.head k ∧ (s.head y.head).held = some r ∧ bound ≤ r.hi ∧ s.yieldable y.head = true
        ∧ y.band + s.fru.margin + 1 = bound ∧ s.fru.margin ≤ y.band ∧ y.rightward = false ∧ y.state = .held
        ∧ y.target = (((y.band * s.fru.width + s.fru.width / 2 : Nat) : Int), (s.head y.head).y)
        ∧ y.sweep = ⟨y.band - s.fru.margin, min (s.band (s.head y.head).x + s.fru.margin) 63⟩
        ∧ (∀ b, y.sweep.lo ≤ b → b ≤ y.sweep.hi → match s.holder d b with
          | none => s.promised d b = false
          | some q => q = y.head ∨ q.index < y.head.index)
        ∧ s.leftCascade d (y.band - s.fru.margin) k = some ys)
    ∧ (∀ (y : Yield) (ys : List Yield), s.rightCascade d bound n = some (y :: ys) ↔
      ∃ k r, n = k + 1 ∧ y.head = d.head (3 - k) ∧ (s.head y.head).held = some r ∧ r.lo ≤ bound
        ∧ s.yieldable y.head = true ∧ y.band = bound + s.fru.margin + 1 ∧ y.band + s.fru.margin ≤ 63
        ∧ y.rightward = true ∧ y.state = .held
        ∧ y.target = (((y.band * s.fru.width + s.fru.width / 2 : Nat) : Int), (s.head y.head).y)
        ∧ y.sweep = ⟨s.band (s.head y.head).x - s.fru.margin, y.band + s.fru.margin⟩
        ∧ (∀ b, y.sweep.lo ≤ b → b ≤ y.sweep.hi → match s.holder d b with
          | none => s.promised d b = false
          | some q => q = y.head ∨ y.head.index < q.index)
        ∧ s.rightCascade d (y.band + s.fru.margin) k = some ys)
    ∧ (∀ ys, s.leftCascade d bound n = some ys → ∀ y ∈ ys,
      s.yieldable y.head = true ∧ y.head.side = d ∧ y.head.index < n ∧ y.rightward = false ∧ y.state = .held
        ∧ s.fru.margin ≤ y.band ∧ y.band + s.fru.margin < bound
        ∧ y.target = (((y.band * s.fru.width + s.fru.width / 2 : Nat) : Int), (s.head y.head).y)
        ∧ y.sweep = ⟨y.band - s.fru.margin, min (s.band (s.head y.head).x + s.fru.margin) 63⟩
        ∧ ∀ b, y.sweep.lo ≤ b → b ≤ y.sweep.hi → match s.holder d b with
          | none => s.promised d b = false
          | some q => q = y.head ∨ q.index < y.head.index)
    ∧ (∀ ys, s.rightCascade d bound n = some ys → ∀ y ∈ ys,
      s.yieldable y.head = true ∧ y.head.side = d ∧ 3 < y.head.index + n ∧ y.rightward = true ∧ y.state = .held
        ∧ bound + s.fru.margin < y.band ∧ y.band + s.fru.margin ≤ 63
        ∧ y.target = (((y.band * s.fru.width + s.fru.width / 2 : Nat) : Int), (s.head y.head).y)
        ∧ y.sweep = ⟨s.band (s.head y.head).x - s.fru.margin, y.band + s.fru.margin⟩
        ∧ ∀ b, y.sweep.lo ≤ b → b ≤ y.sweep.hi → match s.holder d b with
          | none => s.promised d b = false
          | some q => q = y.head ∨ y.head.index < q.index))
  ∧ (∀ (s : State) (p : Pos) (m : MainPart) (y : Yield) (count : Nat), y.state = .held → y.head ≠ m.head →
    (s.lane y.head).out = .free → (s.lane y.head).txTimer = none → (s.head y.head).state = .idle →
    s.mayHold y.head y.sweep = true →
    (∀ b, y.sweep.lo ≤ b → b ≤ y.sweep.hi → s.holder y.head.side b = none ∨ s.holder y.head.side b = some y.head) →
    s.grant p ⟨[m], [y], count⟩ =
      ((((s.modHead m.head fun x =>
        { x with assigned := some p, serving := some (.point m.point) }).modLane y.head fun l =>
          l.issue .goto (wordOfInt y.target.1) (wordOfInt y.target.2) s.alc.gotoTimeout).modHead y.head fun x =>
            { x with assigned := some p, serving := some .yielding, held := some y.sweep, state := .moving }).modEntry p
        fun e =>
          { e.modPoint m.point (fun q => { q with head := some m.head }) with
            phase := .yielding
            stall := e.stall.map fun t => { t with paused := true }
            group := some ⟨[m], [{ y with state := .out }]⟩ }))
  ∧ (∀ (s : State) (h : HeadId) (p : Pos) (x y : Int), (s.head h).assigned = some p →
    (s.head h).serving = some .yielding → (s.head h).state = .moving → s.mayHold h (s.footprint x) = true →
    s.arrive h x y =
      ((s.modHead h fun q =>
        { q with
          x := x, y := y, held := some (s.footprint x), state := .idle, assigned := none
          serving := none }).callEval h.side).yieldReached p h)
  ∧ (∀ (s : State) (e : Entry) (ms : List MainPart) (y z : Yield), s.window = [e] → e.group = some ⟨ms, [y, z]⟩ →
    z.head ≠ y.head → y.state = .held → (s.lane y.head).out = .free → (s.lane y.head).txTimer = none →
    (s.head y.head).state = .idle → s.mayHold y.head y.sweep = true →
    (∀ b, y.sweep.lo ≤ b → b ≤ y.sweep.hi → s.holder y.head.side b = none ∨ s.holder y.head.side b = some y.head) →
    s.yieldReached e.pos z.head =
      { (s.modLane y.head fun l =>
        l.issue .goto (wordOfInt y.target.1) (wordOfInt y.target.2) s.alc.gotoTimeout).modHead y.head fun x =>
          { x with held := some y.sweep, state := .moving } with
        window := [{ e with group := some ⟨ms, [{ y with state := .out }, { z with state := .reached }]⟩ }] })
  ∧ (∀ (s : State) (e : Entry) (m : MainPart) (y : Yield), s.entry? e.pos = some e → e.group = some ⟨[m], [y]⟩ →
    (s.lane m.head).out = .free → (s.lane m.head).txTimer = none → (s.head m.head).state = .idle →
    s.mayHold m.head m.sweep = true →
    s.yieldReached e.pos y.head =
      ((((s.modLane m.head fun l =>
        l.issue .goto (wordOfInt m.target.1) (wordOfInt m.target.2) s.alc.gotoTimeout).modHead m.head fun x =>
          { x with held := some m.sweep, state := .moving }).modEntry e.pos fun e =>
            { e.modPoint m.point (fun q => { q with phase := .moving }) with
              phase := .granted, stall := none, group := none }).callEval m.head.side).callEval y.head.side)
  ∧ (∀ (s : State) (e : Entry) (m n : MainPart) (y : Yield), s.window = [e] → e.group = some ⟨[m, n], [y]⟩ →
    m.head ≠ n.head → (∀ h ∈ [m.head, n.head], (s.lane h).out = .free ∧ (s.lane h).txTimer = none ∧ (s.head h).state = .idle) →
    s.mayHold m.head m.sweep = true →
    (s.modHead m.head fun x => { x with held := some m.sweep }).mayHold n.head n.sweep = true →
    let go (m : MainPart) (s : State) : State :=
      (s.modLane m.head fun l =>
        l.issue .goto (wordOfInt m.target.1) (wordOfInt m.target.2) s.alc.gotoTimeout).modHead m.head fun x =>
          { x with held := some m.sweep, state := .moving }
    s.yieldReached e.pos y.head =
      ((({ go n (go m s) with
        window :=
          [{ (e.modPoint m.point fun q => { q with phase := .moving }).modPoint n.point
              (fun q => { q with phase := .moving }) with
            phase := .granted, stall := none, group := none }] } : State).callEval m.head.side).callEval
        n.head.side).callEval y.head.side)
  ∧ (∀ (s : State) (e : Entry) (ms : List MainPart) (y z : Yield), s.window = [e] → e.group = some ⟨ms, [y, z]⟩ →
    z.head ≠ y.head → (∀ m ∈ ms, m.head ≠ z.head) →
    let free (s : State) (m : MainPart) : State := s.modHead m.head fun x => { x with assigned := none, serving := none }
    let s' := ms.foldl free (s.modHead z.head fun x =>
      match z.state with
      | .held => { x with assigned := none, serving := none }
      | .out => { x with assigned := none, serving := if s.run.state = .running then x.serving else none }
      | .reached => x)
    (s.run.state = .running → ∃ u, s.failYield e.pos y.head =
      { s' with
        window :=
          [{ e with
            phase := .waiting
            group := none
            a := { e.a with head := none, phase := .idle }
            b := { e.b with head := none, phase := .idle }
            stall := e.stall.map fun t => { t with paused := false } }]
        due := u }
      ∧ ∀ n ∈ e.points, match e.sideOf n with | .top => u.evalTop = true | .bottom => u.evalBottom = true)
    ∧ (s.run.state ≠ .running → ∃ u, s.failYield e.pos y.head =
      { s' with
        window := [Entry.fresh e.pos e.addr e.request]
        heads := s'.heads.map fun x => if x.assigned = some e.pos then { x with assigned := none, serving := none } else x
        due := u }))

/-- CLA plans every candidate assignment of a waiting step and takes, of those that are feasible, the one with the fewest bands, and
among equals the first; none is taken exactly when none is feasible. A point's candidates are the head its selector names, or for ANY
the heads of its side, of those that are eligible. An assignment gives each used point one of its candidates, two points of one side
the head of lower index on the smaller X, with the sweep from its position to the target; they are taken in rising order of the head
ids for A and B. It is feasible exactly when its part on each side meets the five conditions of R70, a shadow being that of an older
step that still waits; the bands counted are those of the main sweeps and of the yields' footprints (R49, R69, R70, R71, R74). -/
def Obligations.FewestBandsChosen : Prop :=
  ∀ (s : State) (e : Entry),
    let as := (s.standing e .a).heads
    let bs := (s.standing e .b).heads
    let width (r : Range) : Nat := r.hi + 1 - r.lo
    (s.bestPlan e = none ↔ ∀ ms ∈ s.assignments e as bs, s.planAssignment e.pos ms = none)
    ∧ (∀ p : Plan, s.bestPlan e = some p →
      ∃ front back ms, s.assignments e as bs = front ++ ms :: back ∧ s.planAssignment e.pos ms = some p
        ∧ (∀ xs ∈ front, ∀ q, s.planAssignment e.pos xs = some q → p.count < q.count)
        ∧ ∀ xs ∈ back, ∀ q, s.planAssignment e.pos xs = some q → p.count ≤ q.count)
    ∧ ((s.assignments e as bs).Pairwise fun xs ys => xs.map (·.head.val) < ys.map (·.head.val))
    ∧ (∀ ms ∈ s.assignments e as bs, ∀ q : Plan, s.planAssignment e.pos ms = some q ↔
      q.mains = ms
        ∧ q.count = (ms.map fun m => width m.sweep).sum
            + (q.yields.map fun y => width ⟨y.band - s.fru.margin, min (y.band + s.fru.margin) 63⟩).sum
        ∧ ∃ ts us, q.yields = ts ++ us ∧ s.FeasiblePart e.pos .top (ms.filter fun m => m.head.side = .top) ts
          ∧ s.FeasiblePart e.pos .bottom (ms.filter fun m => m.head.side = .bottom) us)
    ∧ (e.points = [.a, .b] → ∀ ms, ms ∈ s.assignments e as bs ↔
      ∃ ha ∈ as, ∃ hb ∈ bs, ∃ ta tb, e.a.target = some ta ∧ e.b.target = some tb
        ∧ ms = [⟨.a, ha, ta, s.sweep (s.head ha).x ta.1⟩, ⟨.b, hb, tb, s.sweep (s.head hb).x tb.1⟩]
        ∧ (ha.side = hb.side → if ta.1 < tb.1 then ha.index < hb.index else hb.index < ha.index))
    ∧ (e.points = [.a] → ∀ ms, ms ∈ s.assignments e as bs ↔
      ∃ ha ∈ as, ∃ ta, e.a.target = some ta ∧ ms = [⟨.a, ha, ta, s.sweep (s.head ha).x ta.1⟩])
    ∧ ∀ (n : PointName) (h : HeadId), h ∈ (s.standing e n).heads ↔
        s.sides.get (e.sideOf n) = true ∧ s.sides.get h.side = true
          ∧ (reqSelector e.request n % 16 = h.val ∨ (reqSelector e.request n % 16 = 15 ∧ h.side = e.sideOf n))
          ∧ (s.head h).state = .idle ∧ (s.head h).assigned = none ∧ (s.head h).enabled = true ∧ (s.head h).worn = false

/-- A grant of one head with no yields: the head is assigned to the point, takes its sweep and its GOTO, and is MOVING; the step
is under way with its timer discarded (R44, R75, R89). -/
def Obligations.GrantMoves : Prop :=
  ∀ (s : State) (p : Pos) (m : MainPart) (count : Nat), (s.lane m.head).out = .free →
    (s.lane m.head).txTimer = none → (s.head m.head).state = .idle → s.mayHold m.head m.sweep = true →
    s.grant p ⟨[m], [], count⟩ =
      ((s.modLane m.head fun l =>
        l.issue .goto (wordOfInt m.target.1) (wordOfInt m.target.2) s.alc.gotoTimeout).modHead m.head fun x =>
          { x with
            assigned := some p, serving := some (.point m.point), held := some m.sweep, state := .moving }).modEntry p
        fun e =>
          { e.modPoint m.point (fun q => { q with head := some m.head, phase := .moving }) with
            phase := .granted, stall := none, group := none }

/-- What SEQ does with PENDING steps, and when. In RUNNING, and there alone, a PENDING measurement step or one of unknown kind is
dispatched as soon as every older barrier is DONE; the oldest PENDING control step whose order holds becomes ACTIVE, a barrier once every
older step is DONE and no head is MOVING, DESCENDING, SETTLING, LANDED or RAISING, and a MARK once every older step is DONE and written.
A state in which nothing is left to follow has no such step (R9, R12, R13, R14). Which of several is dispatched first is a free
choice (notes/assumptions/8.md). A measurement step ends with the verdict of the first check of R10 that fails, in their order,
and otherwise waits with its targets stored and a stall timer for a limit that is not 0 (R10, R11, R66). A FRAME within the bounds of
R29 replaces its image's and side's transform whole and no other, and otherwise ends with BAD_STEP (R28). ENABLE, DISABLE and
RESET_WEAR change their own items of the head (R59). A RELOAD that names no section is DONE at once, and otherwise it is ACTIVE with the
reads of its sections out; their order is the model's choice (R16, R191, notes/assumptions/54.md). A MARK requests its 4-byte write, or ends with BAD_STEP for its address (R13,
R14). A head whose wear limit is reached gets no DESCEND: it is released where it is, and its point fails with HEAD_WORN (R52). -/
def Obligations.PendingStepsTaken : Prop :=
  (∀ s : State, (s.window.map (·.pos)).Nodup →
    let barrier (q : Entry) : Prop := reqKind q.request = some .frame ∨ reqKind q.request = some .head
      ∨ reqKind q.request = some .park ∨ reqKind q.request = some .reload
    let dispatches (front : List Entry) (e : Entry) : Prop := s.run.state = .running ∧ e.phase = .pending
      ∧ ¬barrier e ∧ reqKind e.request ≠ some .mark ∧ ∀ q ∈ front, barrier q → q.phase = .done
    let activates (front : List Entry) (e : Entry) : Prop := s.run.state = .running ∧ e.phase = .pending
      ∧ ((barrier e ∧ (∀ q ∈ front, q.phase = .done)
          ∧ ∀ h : HeadId, (s.head h).state ∉ [HeadState.moving, .descending, .settling, .landed, .raising])
        ∨ (reqKind e.request = some .mark ∧ ∀ q ∈ front, q.phase = .done ∧ q.written = true))
    (s.dispatchOne = none ↔ ∀ front e back, s.window = front ++ e :: back → ¬dispatches front e)
    ∧ (∀ t, s.dispatchOne = some t → ∃ front e back cs, s.window = front ++ e :: back ∧ dispatches front e
      ∧ t = ({ s with choices := cs } : State).dispatchStep e)
    ∧ (s.activateOne = none ↔ ∀ front e back, s.window = front ++ e :: back → ¬activates front e)
    ∧ (∀ t, s.activateOne = some t ↔ ∃ front e back kind, s.window = front ++ e :: back ∧ activates front e
      ∧ reqKind e.request = some kind ∧ t = s.activate e kind
      ∧ ∀ older q between, front = older ++ q :: between → ¬activates older q)
    ∧ (s.Settled → ∀ front e back, s.window = front ++ e :: back → ¬dispatches front e ∧ ¬activates front e)) ∧
  (∀ (s : State) (e : Entry),
    let sel (n : PointName) : Nat := reqSelector e.request n
    let named (n : PointName) : Option HeadId := if h : sel n % 16 < 8 then some ⟨sel n % 16, h⟩ else none
    let oneSide := e.points = [.a, .b] ∧ e.sideOf .a = e.sideOf .b
    let limits := reqKind e.request = some .res2 ∨ reqKind e.request = some .res4 ∨ reqKind e.request = some .diode
      ∨ reqKind e.request = some .cap
    let outOfReach (n : PointName) : Prop := ∀ t, s.pointTarget e n = some t →
      ¬(0 ≤ t.1 ∧ t.1 ≤ (s.fru.area.get (e.sideOf n)).xmax ∧ 0 ≤ t.2 ∧ t.2 ≤ (s.fru.area.get (e.sideOf n)).ymax)
    let keptOut (n : PointName) : Prop := ∃ t, s.pointTarget e n = some t ∧
      ∃ r ∈ s.fru.keepOut.get (e.sideOf n), r.xmin ≤ t.1 ∧ t.1 ≤ r.xmax ∧ r.ymin ≤ t.2 ∧ t.2 ≤ r.ymax
    let pair (bad : Int → Int → Prop) : Prop :=
      ∃ ta tb, s.pointTarget e .a = some ta ∧ s.pointTarget e .b = some tb ∧ bad ta.1 tb.1
    let checks : List (Prop × Verdict) :=
      [(reqKind e.request = none, .badStep),
        (∃ n ∈ e.points, ¬((sel n / 16 % 4 = 0 ∧ (sel n % 16 < 4 ∨ sel n % 16 = 15))
          ∨ (sel n / 16 % 4 = 1 ∧ ((4 ≤ sel n % 16 ∧ sel n % 16 < 8) ∨ sel n % 16 = 15))), .badStep),
        (oneSide ∧ named .a ≠ none ∧ named .a = named .b, .badStep),
        (limits ∧ reqHigh e.request < reqLow e.request, .badStep),
        (reqMachineCoords e.request = false ∧ ∃ n ∈ e.points, ¬∃ t, s.fru.transforms.get? (reqImage e.request) = some t
          ∧ (t.get (e.sideOf n)).valid = true, .badStep),
        (outOfReach .a, .outOfReach), (keptOut .a, .keepOut),
        (.b ∈ e.points ∧ outOfReach .b, .outOfReach), (.b ∈ e.points ∧ keptOut .b, .keepOut),
        (oneSide ∧ pair fun xa xb => ((s.band xa : Int) - s.band xb).natAbs ≤ 2 * s.fru.margin, .pointsTooClose),
        (oneSide ∧ ∃ ha hb, named .a = some ha ∧ named .b = some hb
          ∧ pair fun xa xb => if xa < xb then hb.index < ha.index else ha.index < hb.index, .badStep)]
    e.dispatches = true →
      (s.dispatchVerdict e = none ↔ ∀ c ∈ checks, ¬c.1)
      ∧ ∀ v, s.dispatchVerdict e = some v ↔
          ∃ front c back, checks = front ++ c :: back ∧ (∀ x ∈ front, ¬x.1) ∧ c.1 ∧ c.2 = v)
  ∧ (∀ (s : State) (e : Entry), s.entry? e.pos = some e → s.allowed (e.addr + 0x62) 30 = true →
    s.allowed (e.addr + 0x60) 2 = true →
    let ended (s : State) (v : Verdict) (status : BitVec 256) : State :=
      { s with
        window := modEntries e.pos (fun _ => e.finished v s.tmb.ticks) s.window
        bus := { s.bus with
          writes := s.bus.writes ++
            [⟨s.bus.nextWrite, .resultItems e.pos, e.addr + 0x62, 30, resultItems (e.finished v s.tmb.ticks)⟩,
              ⟨s.bus.nextWrite + 1, .resultStatus e.pos, e.addr + 0x60, 2, status⟩]
          nextWrite := s.bus.nextWrite + 2 } }
    (∀ v, s.dispatchVerdict e = some v → s.dispatchStep e = ended s v (BitVec.ofNat 256 v.code))
    ∧ (s.dispatchVerdict e = none → ∃ u, s.dispatchStep e =
      { s.modEntry e.pos (fun e =>
          { e with
            phase := .waiting
            a := { e.a with target := s.pointTarget e .a }
            b := if e.points = [.a, .b] then { e.b with target := s.pointTarget e .b } else e.b
            stall := if s.stallLimit = 0 then none else some ⟨0, s.stallLimit, false⟩ }) with due := u }
      ∧ ∀ n ∈ e.points, match e.sideOf n with | .top => u.evalTop = true | .bottom => u.evalBottom = true)
    ∧ (let t := frameTransform e.request
       let inBounds := t.c.natAbs ≤ 1048576 ∧ t.s.natAbs ≤ 1048576 ∧ 1095216660480 ≤ t.c * t.c + t.s * t.s
         ∧ t.c * t.c + t.s * t.s ≤ 1103806595072 ∧ t.kppm.natAbs ≤ 2000
       (∀ (d : Side) (ts : PerSide Transform), frameSide e.request = some d →
          s.fru.transforms.get? (frameImage e.request) = some ts → inBounds →
          ∃ u, s.activate e .frame = ended { s with fru := { s.fru with transforms := u } } .done 14
            ∧ u.get? (frameImage e.request) = some (ts.set d { t with valid := true })
            ∧ ∀ g, g ≠ frameImage e.request → u.get? g = s.fru.transforms.get? g)
       ∧ ((frameSide e.request = none ∨ 3 < frameImage e.request ∨ ¬inBounds) →
          s.activate e .frame = ended s .badStep 13))
    ∧ (∀ h : HeadId,
        (headAction e.request = some (.enable h) →
          s.activate e .head = ended (s.modHead h fun x => { x with enabled := true }) .done 14)
        ∧ (headAction e.request = some (.disable h) →
          s.activate e .head = ended (s.modHead h fun x => { x with enabled := false }) .done 14)
        ∧ (headAction e.request = some (.resetWear h) →
          s.activate e .head = ended (s.modHead h fun x => { x with touches := 0, worn := false }) .done 14))
    ∧ (headAction e.request = none → s.activate e .head = ended s .badStep 13)
    ∧ (let mask := reloadMask e.request
       let reads : List Nat :=
         (if mask.testBit 1 = true ∨ mask.testBit 3 = true then [0x040] else [])
           ++ (if mask.testBit 2 = true then [0x080, 0x100] else [])
           ++ (if mask.testBit 0 = true then [0x180, 0x200, 0x280, 0x300] else [])
       (mask % 16 = 0 → s.activate e .reload = ended s .done 14)
       ∧ (mask % 16 ≠ 0 → s.BlockReachable →
          s.activate e .reload =
            { s.modEntry e.pos (fun q => { q with phase := .active }) with
              bus := { s.bus with
                reads := s.bus.reads ++ reads.mapIdx fun i off =>
                  ⟨s.bus.nextRead + i, .reload off, s.bus.cba + BitVec.ofNat 64 off, s.plr.generation, 0, none⟩
                nextRead := s.bus.nextRead + reads.length }
              reload := some
                { pos := e.pos, mask := mask, out := (List.range reads.length).map (s.bus.nextRead + ·), got := [] } }))
    ∧ (let a := markTarget e.request
       (a.toNat % 4 = 0 ∧ inWindow s.bus.window a 4 = true →
          s.activate e .mark =
            { (s.modEntry e.pos fun q => { q with phase := .active, markWrite := some s.bus.nextWrite }) with
              bus := { s.bus with
                writes := s.bus.writes ++
                  [⟨s.bus.nextWrite, .markValue e.pos, a, 4, (markValue e.request).setWidth 256⟩]
                nextWrite := s.bus.nextWrite + 1 } })
       ∧ (¬(a.toNat % 4 = 0 ∧ inWindow s.bus.window a 4 = true) → s.activate e .mark = ended s .badStep 13)))
  ∧ (∀ (s : State) (h : HeadId) (e : Entry) (n : PointName), s.window = [e] → e.phase = .granted →
    (s.head h).wearLimit ≠ 0 → (s.head h).wearLimit ≤ (s.head h).touches → (s.head h).state ≠ .lost →
    ∃ q, (s.descendHead h e.pos n).window = [q] ∧ q.phase = .lifting ∧ (q.point n).phase = .failed
      ∧ q.verdict = (e.verdict <|> some .headWorn) ∧ (s.descendHead h e.pos n).lane h = s.lane h
      ∧ (s.descendHead h e.pos n).head h = { s.head h with state := .idle, assigned := none, serving := none })

/-- The control steps that move heads. HOME_SIDE closes its side, clears its bands and makes its four heads HOMING for the step, each
HOME issued on a FREE lane and held on another (R56); that it is held on a FREE lane, too, until the transmit line has been idle 2 µs
is the model's choice (R84, notes/assumptions/58.md). PARK on an OPEN side takes the heads in passes, each in the order 0, 3, 1, 2, and on a CLOSED side is done with PARTIAL. A head's
turn: settled before, or at its home, it makes no move; not IDLE, or behind a LOST head's band, it is skipped; behind another head's
band it is deferred; and clear, it is sent home with its sweep held. No turn is taken while a move is out. A pass that has moved a head
is followed by another, and otherwise the PARK is done, with PARTIAL set if a head was skipped or is still deferred (R60, R82). The rows
are taken in the order of R60's table, the model's choice (notes/assumptions/14.md). A move that ends at home settles its head; one that
is refused or loses the head skips it (R61). -/
def Obligations.SideStepsStart : Prop :=
  (∀ (s : State) (p : Pos) (d : Side),
    ((s.startHoming p d).sides.get d = false
      ∧ ∀ h : HeadId, (h.side = d → ((s.startHoming p d).head h).state = .homing
          ∧ ((s.startHoming p d).head h).held = none ∧ ((s.startHoming p d).head h).assigned = some p
          ∧ ((s.startHoming p d).head h).serving = some .home
          ∧ ((s.lane h).out = .free → (s.lane h).txTimer = none →
              ((s.startHoming p d).lane h).out =
                .order { kind := .home, tag := (s.lane h).nextTag, arg1 := wordOfInt (s.head h).homeX,
                         arg2 := wordOfInt (s.head h).homeY, count := 0, timeout := s.alc.homeTimeout })
          ∧ ((s.lane h).out ≠ .free ∨ (s.lane h).txTimer ≠ none → (s.startHoming p d).lane h = s.lane h
              ∧ ((s.startHoming p d).head h).heldOrder = some .home))
        ∧ (h.side ≠ d → (s.startHoming p d).head h = s.head h ∧ (s.startHoming p d).lane h = s.lane h))
    ∧ (s.sides.get d = true → (s.startPark p d).park =
        some { pos := p, side := d, settled := [], skipped := false,
               rest := [d.head 0, d.head 3, d.head 1, d.head 2], moved := false, current := none }
        ∧ (s.startPark p d).heads = s.heads)
    ∧ (∀ e : Entry, s.sides.get d = false → s.entry? p = some e →
        ∃ q, (s.startPark p d).entry? p = some q ∧ q.phase = .done ∧ q.verdict = some .done
          ∧ q.flags.partialPark = true ∧ (s.startPark p d).park = none ∧ (s.startPark p d).heads = s.heads))
  ∧ (∀ (s : State) (k : Park), s.park = some k →
    (k.current.isSome = true → s.parkStep = none)
    ∧ (k.current = none →
      (∀ (h : HeadId) (rest : List HeadId), k.rest = h :: rest →
        let x := s.head h
        let r := s.sweep x.x x.homeX
        let home := x.x = x.homeX ∧ x.y = x.homeY
        let crosses (q : HeadId) : Prop := q ≠ h ∧ ∃ b, r.lo ≤ b ∧ b ≤ r.hi ∧ s.holder h.side b = some q
        let turn (k : Park) : State := { s with park := some { k with rest := rest } }
        (h ∈ k.settled → s.parkStep = some (turn k))
        ∧ (h ∉ k.settled → home → s.parkStep = some (turn { k with settled := h :: k.settled }))
        ∧ (h ∉ k.settled → ¬home → (x.state ≠ .idle ∨ ∃ q, crosses q ∧ (s.head q).state = .lost) →
          s.parkStep = some (turn { k with settled := h :: k.settled, skipped := true }))
        ∧ (h ∉ k.settled → ¬home → x.state = .idle → (∃ q, crosses q) →
          (∀ q, crosses q → (s.head q).state ≠ .lost) → s.parkStep = some (turn k))
        ∧ (h ∉ k.settled → ¬home → x.state = .idle → s.mayHold h r = true → (s.lane h).out = .free →
          (s.lane h).txTimer = none →
          (∀ b, r.lo ≤ b → b ≤ r.hi → s.holder h.side b = some h ∨ s.holder h.side b = none ∧ s.promised h.side b = false) →
          s.parkStep = some
            { (s.modLane h fun l =>
              l.issue .goto (wordOfInt x.homeX) (wordOfInt x.homeY) s.alc.gotoTimeout).modHead h fun x =>
                { x with assigned := some k.pos, serving := some .park, held := some r, state := .moving } with
              park := some { k with rest := rest, moved := true, current := some h } }))
      ∧ (k.rest = [] → k.moved = true → s.parkStep = some { s with
          park := some { k with rest := [k.side.head 0, k.side.head 3, k.side.head 1, k.side.head 2], moved := false } })
      ∧ (k.rest = [] → k.moved = false → ∀ e, s.entry? k.pos = some e →
          ∃ t q, s.parkStep = some t ∧ t.park = none ∧ t.heads = s.heads ∧ t.entry? k.pos = some q ∧ q.phase = .done
            ∧ q.verdict = some .done
            ∧ (q.flags.partialPark = true ↔ k.skipped = true ∨ ∃ h : HeadId, h.side = k.side ∧ h ∉ k.settled))))
  ∧ (∀ (s : State) (k : Park) (h : HeadId) (p : Pos) (x y : Int), s.park = some k → k.current = some h →
    (s.head h).assigned = some p → (s.head h).serving = some .park → (s.head h).state = .moving →
    let ends (skipped : Bool) (f : Head → Head) : State :=
      ({ s.modHead h (fun q => { f q with state := .idle, assigned := none, serving := none }) with
        park := some { k with settled := h :: k.settled, skipped := k.skipped || skipped, current := none } } : State).callEval
          h.side
    (s.mayHold h (s.footprint x) = true →
      s.arrive h x y = ends false fun q => { q with x := x, y := y, held := some (s.footprint x) })
    ∧ (s.mayHold h (s.footprint (s.head h).x) = true →
      s.moveRefused h = ends true fun q => { q with held := some (s.footprint q.x) })
    ∧ ((s.loseHead h).park = some { k with settled := h :: k.settled, skipped := true, current := none }
      ∧ ((s.loseHead h).head h).state = .lost ∧ ((s.loseHead h).head h).held = (s.head h).held))

end
end

