-- ==== Sys2Proof/Laws/State.lean ====
section
/-! SUPPORT. One lemma per field of State and update: what an accessor's update leaves and what it writes. -/

namespace Sys2Proof

/-! ### The per-head and per-side tables -/

@[simp] theorem PerHead.get_set {α : Type} (v : PerHead α) (h g : HeadId) (a : α) :
    (v.set h a).get g = if g = h then a else v.get g := by
  match h, g with
  | 0, 0 => rfl
  | 0, 1 => rfl
  | 0, 2 => rfl
  | 0, 3 => rfl
  | 0, 4 => rfl
  | 0, 5 => rfl
  | 0, 6 => rfl
  | 0, 7 => rfl
  | 1, 0 => rfl
  | 1, 1 => rfl
  | 1, 2 => rfl
  | 1, 3 => rfl
  | 1, 4 => rfl
  | 1, 5 => rfl
  | 1, 6 => rfl
  | 1, 7 => rfl
  | 2, 0 => rfl
  | 2, 1 => rfl
  | 2, 2 => rfl
  | 2, 3 => rfl
  | 2, 4 => rfl
  | 2, 5 => rfl
  | 2, 6 => rfl
  | 2, 7 => rfl
  | 3, 0 => rfl
  | 3, 1 => rfl
  | 3, 2 => rfl
  | 3, 3 => rfl
  | 3, 4 => rfl
  | 3, 5 => rfl
  | 3, 6 => rfl
  | 3, 7 => rfl
  | 4, 0 => rfl
  | 4, 1 => rfl
  | 4, 2 => rfl
  | 4, 3 => rfl
  | 4, 4 => rfl
  | 4, 5 => rfl
  | 4, 6 => rfl
  | 4, 7 => rfl
  | 5, 0 => rfl
  | 5, 1 => rfl
  | 5, 2 => rfl
  | 5, 3 => rfl
  | 5, 4 => rfl
  | 5, 5 => rfl
  | 5, 6 => rfl
  | 5, 7 => rfl
  | 6, 0 => rfl
  | 6, 1 => rfl
  | 6, 2 => rfl
  | 6, 3 => rfl
  | 6, 4 => rfl
  | 6, 5 => rfl
  | 6, 6 => rfl
  | 6, 7 => rfl
  | 7, 0 => rfl
  | 7, 1 => rfl
  | 7, 2 => rfl
  | 7, 3 => rfl
  | 7, 4 => rfl
  | 7, 5 => rfl
  | 7, 6 => rfl
  | 7, 7 => rfl

@[simp] theorem PerHead.get_fill {α : Type} (a : α) (h : HeadId) : (PerHead.fill a).get h = a := by
  match h with
  | 0 => rfl
  | 1 => rfl
  | 2 => rfl
  | 3 => rfl
  | 4 => rfl
  | 5 => rfl
  | 6 => rfl
  | 7 => rfl

@[simp] theorem PerHead.get_map {α β : Type} (f : α → β) (v : PerHead α) (h : HeadId) :
    (v.map f).get h = f (v.get h) := by
  match h with
  | 0 => rfl
  | 1 => rfl
  | 2 => rfl
  | 3 => rfl
  | 4 => rfl
  | 5 => rfl
  | 6 => rfl
  | 7 => rfl

@[simp] theorem PerSide.get_set {α : Type} (v : PerSide α) (d e : Side) (a : α) :
    (v.set d a).get e = if e = d then a else v.get e := by
  cases d <;> cases e <;> rfl

/-- Two per-head tables that agree on every head are equal. -/
theorem PerHead.ext_get {α : Type} {v w : PerHead α} (h : ∀ g, v.get g = w.get g) : v = w := by
  cases v; cases w
  have := h 0; have := h 1; have := h 2; have := h 3; have := h 4; have := h 5; have := h 6; have := h 7
  simp_all [PerHead.get]

end Sys2Proof

namespace Sys2Proof.Machine

/-! ### Updates of State -/

section
variable (s : State)

@[simp] theorem State.setHead_tmb (h : HeadId) (x : Head) : (s.setHead h x).tmb = s.tmb := rfl
@[simp] theorem State.setHead_run (h : HeadId) (x : Head) : (s.setHead h x).run = s.run := rfl
@[simp] theorem State.setHead_regs (h : HeadId) (x : Head) : (s.setHead h x).regs = s.regs := rfl
@[simp] theorem State.setHead_bus (h : HeadId) (x : Head) : (s.setHead h x).bus = s.bus := rfl
@[simp] theorem State.setHead_evu (h : HeadId) (x : Head) : (s.setHead h x).evu = s.evu := rfl
@[simp] theorem State.setHead_fru (h : HeadId) (x : Head) : (s.setHead h x).fru = s.fru := rfl
@[simp] theorem State.setHead_heads (h : HeadId) (x : Head) : (s.setHead h x).heads = s.heads.set h x := rfl
@[simp] theorem State.setHead_sides (h : HeadId) (x : Head) : (s.setHead h x).sides = s.sides := rfl
@[simp] theorem State.setHead_lanes (h : HeadId) (x : Head) : (s.setHead h x).lanes = s.lanes := rfl
@[simp] theorem State.setHead_alc (h : HeadId) (x : Head) : (s.setHead h x).alc = s.alc := rfl
@[simp] theorem State.setHead_ctm (h : HeadId) (x : Head) : (s.setHead h x).ctm = s.ctm := rfl
@[simp] theorem State.setHead_men (h : HeadId) (x : Head) : (s.setHead h x).men = s.men := rfl
@[simp] theorem State.setHead_plr (h : HeadId) (x : Head) : (s.setHead h x).plr = s.plr := rfl
@[simp] theorem State.setHead_window (h : HeadId) (x : Head) : (s.setHead h x).window = s.window := rfl
@[simp] theorem State.setHead_stallLimit (h : HeadId) (x : Head) : (s.setHead h x).stallLimit = s.stallLimit := rfl
@[simp] theorem State.setHead_park (h : HeadId) (x : Head) : (s.setHead h x).park = s.park := rfl
@[simp] theorem State.setHead_reload (h : HeadId) (x : Head) : (s.setHead h x).reload = s.reload := rfl
@[simp] theorem State.setHead_due (h : HeadId) (x : Head) : (s.setHead h x).due = s.due := rfl
@[simp] theorem State.setHead_choices (h : HeadId) (x : Head) : (s.setHead h x).choices = s.choices := rfl
@[simp] theorem State.setHead_pending (h : HeadId) (x : Head) : (s.setHead h x).pending = s.pending := rfl

@[simp] theorem State.modHead_tmb (h : HeadId) (f : Head → Head) : (s.modHead h f).tmb = s.tmb := rfl
@[simp] theorem State.modHead_run (h : HeadId) (f : Head → Head) : (s.modHead h f).run = s.run := rfl
@[simp] theorem State.modHead_regs (h : HeadId) (f : Head → Head) : (s.modHead h f).regs = s.regs := rfl
@[simp] theorem State.modHead_bus (h : HeadId) (f : Head → Head) : (s.modHead h f).bus = s.bus := rfl
@[simp] theorem State.modHead_evu (h : HeadId) (f : Head → Head) : (s.modHead h f).evu = s.evu := rfl
@[simp] theorem State.modHead_fru (h : HeadId) (f : Head → Head) : (s.modHead h f).fru = s.fru := rfl
@[simp] theorem State.modHead_heads (h : HeadId) (f : Head → Head) : (s.modHead h f).heads = s.heads.set h (f (s.head h)) := rfl
@[simp] theorem State.modHead_sides (h : HeadId) (f : Head → Head) : (s.modHead h f).sides = s.sides := rfl
@[simp] theorem State.modHead_lanes (h : HeadId) (f : Head → Head) : (s.modHead h f).lanes = s.lanes := rfl
@[simp] theorem State.modHead_alc (h : HeadId) (f : Head → Head) : (s.modHead h f).alc = s.alc := rfl
@[simp] theorem State.modHead_ctm (h : HeadId) (f : Head → Head) : (s.modHead h f).ctm = s.ctm := rfl
@[simp] theorem State.modHead_men (h : HeadId) (f : Head → Head) : (s.modHead h f).men = s.men := rfl
@[simp] theorem State.modHead_plr (h : HeadId) (f : Head → Head) : (s.modHead h f).plr = s.plr := rfl
@[simp] theorem State.modHead_window (h : HeadId) (f : Head → Head) : (s.modHead h f).window = s.window := rfl
@[simp] theorem State.modHead_stallLimit (h : HeadId) (f : Head → Head) : (s.modHead h f).stallLimit = s.stallLimit := rfl
@[simp] theorem State.modHead_park (h : HeadId) (f : Head → Head) : (s.modHead h f).park = s.park := rfl
@[simp] theorem State.modHead_reload (h : HeadId) (f : Head → Head) : (s.modHead h f).reload = s.reload := rfl
@[simp] theorem State.modHead_due (h : HeadId) (f : Head → Head) : (s.modHead h f).due = s.due := rfl
@[simp] theorem State.modHead_choices (h : HeadId) (f : Head → Head) : (s.modHead h f).choices = s.choices := rfl
@[simp] theorem State.modHead_pending (h : HeadId) (f : Head → Head) : (s.modHead h f).pending = s.pending := rfl

@[simp] theorem State.setLane_tmb (l : HeadId) (x : Lane) : (s.setLane l x).tmb = s.tmb := rfl
@[simp] theorem State.setLane_run (l : HeadId) (x : Lane) : (s.setLane l x).run = s.run := rfl
@[simp] theorem State.setLane_regs (l : HeadId) (x : Lane) : (s.setLane l x).regs = s.regs := rfl
@[simp] theorem State.setLane_bus (l : HeadId) (x : Lane) : (s.setLane l x).bus = s.bus := rfl
@[simp] theorem State.setLane_evu (l : HeadId) (x : Lane) : (s.setLane l x).evu = s.evu := rfl
@[simp] theorem State.setLane_fru (l : HeadId) (x : Lane) : (s.setLane l x).fru = s.fru := rfl
@[simp] theorem State.setLane_heads (l : HeadId) (x : Lane) : (s.setLane l x).heads = s.heads := rfl
@[simp] theorem State.setLane_sides (l : HeadId) (x : Lane) : (s.setLane l x).sides = s.sides := rfl
@[simp] theorem State.setLane_lanes (l : HeadId) (x : Lane) : (s.setLane l x).lanes = s.lanes.set l x := rfl
@[simp] theorem State.setLane_alc (l : HeadId) (x : Lane) : (s.setLane l x).alc = s.alc := rfl
@[simp] theorem State.setLane_ctm (l : HeadId) (x : Lane) : (s.setLane l x).ctm = s.ctm := rfl
@[simp] theorem State.setLane_men (l : HeadId) (x : Lane) : (s.setLane l x).men = s.men := rfl
@[simp] theorem State.setLane_plr (l : HeadId) (x : Lane) : (s.setLane l x).plr = s.plr := rfl
@[simp] theorem State.setLane_window (l : HeadId) (x : Lane) : (s.setLane l x).window = s.window := rfl
@[simp] theorem State.setLane_stallLimit (l : HeadId) (x : Lane) : (s.setLane l x).stallLimit = s.stallLimit := rfl
@[simp] theorem State.setLane_park (l : HeadId) (x : Lane) : (s.setLane l x).park = s.park := rfl
@[simp] theorem State.setLane_reload (l : HeadId) (x : Lane) : (s.setLane l x).reload = s.reload := rfl
@[simp] theorem State.setLane_due (l : HeadId) (x : Lane) : (s.setLane l x).due = s.due := rfl
@[simp] theorem State.setLane_choices (l : HeadId) (x : Lane) : (s.setLane l x).choices = s.choices := rfl
@[simp] theorem State.setLane_pending (l : HeadId) (x : Lane) : (s.setLane l x).pending = s.pending := rfl

@[simp] theorem State.modLane_tmb (l : HeadId) (f : Lane → Lane) : (s.modLane l f).tmb = s.tmb := rfl
@[simp] theorem State.modLane_run (l : HeadId) (f : Lane → Lane) : (s.modLane l f).run = s.run := rfl
@[simp] theorem State.modLane_regs (l : HeadId) (f : Lane → Lane) : (s.modLane l f).regs = s.regs := rfl
@[simp] theorem State.modLane_bus (l : HeadId) (f : Lane → Lane) : (s.modLane l f).bus = s.bus := rfl
@[simp] theorem State.modLane_evu (l : HeadId) (f : Lane → Lane) : (s.modLane l f).evu = s.evu := rfl
@[simp] theorem State.modLane_fru (l : HeadId) (f : Lane → Lane) : (s.modLane l f).fru = s.fru := rfl
@[simp] theorem State.modLane_heads (l : HeadId) (f : Lane → Lane) : (s.modLane l f).heads = s.heads := rfl
@[simp] theorem State.modLane_sides (l : HeadId) (f : Lane → Lane) : (s.modLane l f).sides = s.sides := rfl
@[simp] theorem State.modLane_lanes (l : HeadId) (f : Lane → Lane) : (s.modLane l f).lanes = s.lanes.set l (f (s.lane l)) := rfl
@[simp] theorem State.modLane_alc (l : HeadId) (f : Lane → Lane) : (s.modLane l f).alc = s.alc := rfl
@[simp] theorem State.modLane_ctm (l : HeadId) (f : Lane → Lane) : (s.modLane l f).ctm = s.ctm := rfl
@[simp] theorem State.modLane_men (l : HeadId) (f : Lane → Lane) : (s.modLane l f).men = s.men := rfl
@[simp] theorem State.modLane_plr (l : HeadId) (f : Lane → Lane) : (s.modLane l f).plr = s.plr := rfl
@[simp] theorem State.modLane_window (l : HeadId) (f : Lane → Lane) : (s.modLane l f).window = s.window := rfl
@[simp] theorem State.modLane_stallLimit (l : HeadId) (f : Lane → Lane) : (s.modLane l f).stallLimit = s.stallLimit := rfl
@[simp] theorem State.modLane_park (l : HeadId) (f : Lane → Lane) : (s.modLane l f).park = s.park := rfl
@[simp] theorem State.modLane_reload (l : HeadId) (f : Lane → Lane) : (s.modLane l f).reload = s.reload := rfl
@[simp] theorem State.modLane_due (l : HeadId) (f : Lane → Lane) : (s.modLane l f).due = s.due := rfl
@[simp] theorem State.modLane_choices (l : HeadId) (f : Lane → Lane) : (s.modLane l f).choices = s.choices := rfl
@[simp] theorem State.modLane_pending (l : HeadId) (f : Lane → Lane) : (s.modLane l f).pending = s.pending := rfl

@[simp] theorem State.modContact_tmb (h : HeadId) (f : Contact → Contact) : (s.modContact h f).tmb = s.tmb := rfl
@[simp] theorem State.modContact_run (h : HeadId) (f : Contact → Contact) : (s.modContact h f).run = s.run := rfl
@[simp] theorem State.modContact_regs (h : HeadId) (f : Contact → Contact) : (s.modContact h f).regs = s.regs := rfl
@[simp] theorem State.modContact_bus (h : HeadId) (f : Contact → Contact) : (s.modContact h f).bus = s.bus := rfl
@[simp] theorem State.modContact_evu (h : HeadId) (f : Contact → Contact) : (s.modContact h f).evu = s.evu := rfl
@[simp] theorem State.modContact_fru (h : HeadId) (f : Contact → Contact) : (s.modContact h f).fru = s.fru := rfl
@[simp] theorem State.modContact_heads (h : HeadId) (f : Contact → Contact) : (s.modContact h f).heads = s.heads := rfl
@[simp] theorem State.modContact_sides (h : HeadId) (f : Contact → Contact) : (s.modContact h f).sides = s.sides := rfl
@[simp] theorem State.modContact_lanes (h : HeadId) (f : Contact → Contact) : (s.modContact h f).lanes = s.lanes := rfl
@[simp] theorem State.modContact_alc (h : HeadId) (f : Contact → Contact) : (s.modContact h f).alc = s.alc := rfl
@[simp] theorem State.modContact_ctm (h : HeadId) (f : Contact → Contact) : (s.modContact h f).ctm = { s.ctm with heads := s.ctm.heads.set h (f (s.contact h)) } := rfl
@[simp] theorem State.modContact_men (h : HeadId) (f : Contact → Contact) : (s.modContact h f).men = s.men := rfl
@[simp] theorem State.modContact_plr (h : HeadId) (f : Contact → Contact) : (s.modContact h f).plr = s.plr := rfl
@[simp] theorem State.modContact_window (h : HeadId) (f : Contact → Contact) : (s.modContact h f).window = s.window := rfl
@[simp] theorem State.modContact_stallLimit (h : HeadId) (f : Contact → Contact) : (s.modContact h f).stallLimit = s.stallLimit := rfl
@[simp] theorem State.modContact_park (h : HeadId) (f : Contact → Contact) : (s.modContact h f).park = s.park := rfl
@[simp] theorem State.modContact_reload (h : HeadId) (f : Contact → Contact) : (s.modContact h f).reload = s.reload := rfl
@[simp] theorem State.modContact_due (h : HeadId) (f : Contact → Contact) : (s.modContact h f).due = s.due := rfl
@[simp] theorem State.modContact_choices (h : HeadId) (f : Contact → Contact) : (s.modContact h f).choices = s.choices := rfl
@[simp] theorem State.modContact_pending (h : HeadId) (f : Contact → Contact) : (s.modContact h f).pending = s.pending := rfl

@[simp] theorem State.modMen_tmb (f : Engine → Engine) : (s.modMen f).tmb = s.tmb := rfl
@[simp] theorem State.modMen_run (f : Engine → Engine) : (s.modMen f).run = s.run := rfl
@[simp] theorem State.modMen_regs (f : Engine → Engine) : (s.modMen f).regs = s.regs := rfl
@[simp] theorem State.modMen_bus (f : Engine → Engine) : (s.modMen f).bus = s.bus := rfl
@[simp] theorem State.modMen_evu (f : Engine → Engine) : (s.modMen f).evu = s.evu := rfl
@[simp] theorem State.modMen_fru (f : Engine → Engine) : (s.modMen f).fru = s.fru := rfl
@[simp] theorem State.modMen_heads (f : Engine → Engine) : (s.modMen f).heads = s.heads := rfl
@[simp] theorem State.modMen_sides (f : Engine → Engine) : (s.modMen f).sides = s.sides := rfl
@[simp] theorem State.modMen_lanes (f : Engine → Engine) : (s.modMen f).lanes = s.lanes := rfl
@[simp] theorem State.modMen_alc (f : Engine → Engine) : (s.modMen f).alc = s.alc := rfl
@[simp] theorem State.modMen_ctm (f : Engine → Engine) : (s.modMen f).ctm = s.ctm := rfl
@[simp] theorem State.modMen_men (f : Engine → Engine) : (s.modMen f).men = f s.men := rfl
@[simp] theorem State.modMen_plr (f : Engine → Engine) : (s.modMen f).plr = s.plr := rfl
@[simp] theorem State.modMen_window (f : Engine → Engine) : (s.modMen f).window = s.window := rfl
@[simp] theorem State.modMen_stallLimit (f : Engine → Engine) : (s.modMen f).stallLimit = s.stallLimit := rfl
@[simp] theorem State.modMen_park (f : Engine → Engine) : (s.modMen f).park = s.park := rfl
@[simp] theorem State.modMen_reload (f : Engine → Engine) : (s.modMen f).reload = s.reload := rfl
@[simp] theorem State.modMen_due (f : Engine → Engine) : (s.modMen f).due = s.due := rfl
@[simp] theorem State.modMen_choices (f : Engine → Engine) : (s.modMen f).choices = s.choices := rfl
@[simp] theorem State.modMen_pending (f : Engine → Engine) : (s.modMen f).pending = s.pending := rfl

@[simp] theorem State.modPlr_tmb (f : PlanReader → PlanReader) : (s.modPlr f).tmb = s.tmb := rfl
@[simp] theorem State.modPlr_run (f : PlanReader → PlanReader) : (s.modPlr f).run = s.run := rfl
@[simp] theorem State.modPlr_regs (f : PlanReader → PlanReader) : (s.modPlr f).regs = s.regs := rfl
@[simp] theorem State.modPlr_bus (f : PlanReader → PlanReader) : (s.modPlr f).bus = s.bus := rfl
@[simp] theorem State.modPlr_evu (f : PlanReader → PlanReader) : (s.modPlr f).evu = s.evu := rfl
@[simp] theorem State.modPlr_fru (f : PlanReader → PlanReader) : (s.modPlr f).fru = s.fru := rfl
@[simp] theorem State.modPlr_heads (f : PlanReader → PlanReader) : (s.modPlr f).heads = s.heads := rfl
@[simp] theorem State.modPlr_sides (f : PlanReader → PlanReader) : (s.modPlr f).sides = s.sides := rfl
@[simp] theorem State.modPlr_lanes (f : PlanReader → PlanReader) : (s.modPlr f).lanes = s.lanes := rfl
@[simp] theorem State.modPlr_alc (f : PlanReader → PlanReader) : (s.modPlr f).alc = s.alc := rfl
@[simp] theorem State.modPlr_ctm (f : PlanReader → PlanReader) : (s.modPlr f).ctm = s.ctm := rfl
@[simp] theorem State.modPlr_men (f : PlanReader → PlanReader) : (s.modPlr f).men = s.men := rfl
@[simp] theorem State.modPlr_plr (f : PlanReader → PlanReader) : (s.modPlr f).plr = f s.plr := rfl
@[simp] theorem State.modPlr_window (f : PlanReader → PlanReader) : (s.modPlr f).window = s.window := rfl
@[simp] theorem State.modPlr_stallLimit (f : PlanReader → PlanReader) : (s.modPlr f).stallLimit = s.stallLimit := rfl
@[simp] theorem State.modPlr_park (f : PlanReader → PlanReader) : (s.modPlr f).park = s.park := rfl
@[simp] theorem State.modPlr_reload (f : PlanReader → PlanReader) : (s.modPlr f).reload = s.reload := rfl
@[simp] theorem State.modPlr_due (f : PlanReader → PlanReader) : (s.modPlr f).due = s.due := rfl
@[simp] theorem State.modPlr_choices (f : PlanReader → PlanReader) : (s.modPlr f).choices = s.choices := rfl
@[simp] theorem State.modPlr_pending (f : PlanReader → PlanReader) : (s.modPlr f).pending = s.pending := rfl

@[simp] theorem State.modRun_tmb (f : RunControl → RunControl) : (s.modRun f).tmb = s.tmb := rfl
@[simp] theorem State.modRun_run (f : RunControl → RunControl) : (s.modRun f).run = f s.run := rfl
@[simp] theorem State.modRun_regs (f : RunControl → RunControl) : (s.modRun f).regs = s.regs := rfl
@[simp] theorem State.modRun_bus (f : RunControl → RunControl) : (s.modRun f).bus = s.bus := rfl
@[simp] theorem State.modRun_evu (f : RunControl → RunControl) : (s.modRun f).evu = s.evu := rfl
@[simp] theorem State.modRun_fru (f : RunControl → RunControl) : (s.modRun f).fru = s.fru := rfl
@[simp] theorem State.modRun_heads (f : RunControl → RunControl) : (s.modRun f).heads = s.heads := rfl
@[simp] theorem State.modRun_sides (f : RunControl → RunControl) : (s.modRun f).sides = s.sides := rfl
@[simp] theorem State.modRun_lanes (f : RunControl → RunControl) : (s.modRun f).lanes = s.lanes := rfl
@[simp] theorem State.modRun_alc (f : RunControl → RunControl) : (s.modRun f).alc = s.alc := rfl
@[simp] theorem State.modRun_ctm (f : RunControl → RunControl) : (s.modRun f).ctm = s.ctm := rfl
@[simp] theorem State.modRun_men (f : RunControl → RunControl) : (s.modRun f).men = s.men := rfl
@[simp] theorem State.modRun_plr (f : RunControl → RunControl) : (s.modRun f).plr = s.plr := rfl
@[simp] theorem State.modRun_window (f : RunControl → RunControl) : (s.modRun f).window = s.window := rfl
@[simp] theorem State.modRun_stallLimit (f : RunControl → RunControl) : (s.modRun f).stallLimit = s.stallLimit := rfl
@[simp] theorem State.modRun_park (f : RunControl → RunControl) : (s.modRun f).park = s.park := rfl
@[simp] theorem State.modRun_reload (f : RunControl → RunControl) : (s.modRun f).reload = s.reload := rfl
@[simp] theorem State.modRun_due (f : RunControl → RunControl) : (s.modRun f).due = s.due := rfl
@[simp] theorem State.modRun_choices (f : RunControl → RunControl) : (s.modRun f).choices = s.choices := rfl
@[simp] theorem State.modRun_pending (f : RunControl → RunControl) : (s.modRun f).pending = s.pending := rfl

@[simp] theorem State.modBus_tmb (f : BusInterface → BusInterface) : (s.modBus f).tmb = s.tmb := rfl
@[simp] theorem State.modBus_run (f : BusInterface → BusInterface) : (s.modBus f).run = s.run := rfl
@[simp] theorem State.modBus_regs (f : BusInterface → BusInterface) : (s.modBus f).regs = s.regs := rfl
@[simp] theorem State.modBus_bus (f : BusInterface → BusInterface) : (s.modBus f).bus = f s.bus := rfl
@[simp] theorem State.modBus_evu (f : BusInterface → BusInterface) : (s.modBus f).evu = s.evu := rfl
@[simp] theorem State.modBus_fru (f : BusInterface → BusInterface) : (s.modBus f).fru = s.fru := rfl
@[simp] theorem State.modBus_heads (f : BusInterface → BusInterface) : (s.modBus f).heads = s.heads := rfl
@[simp] theorem State.modBus_sides (f : BusInterface → BusInterface) : (s.modBus f).sides = s.sides := rfl
@[simp] theorem State.modBus_lanes (f : BusInterface → BusInterface) : (s.modBus f).lanes = s.lanes := rfl
@[simp] theorem State.modBus_alc (f : BusInterface → BusInterface) : (s.modBus f).alc = s.alc := rfl
@[simp] theorem State.modBus_ctm (f : BusInterface → BusInterface) : (s.modBus f).ctm = s.ctm := rfl
@[simp] theorem State.modBus_men (f : BusInterface → BusInterface) : (s.modBus f).men = s.men := rfl
@[simp] theorem State.modBus_plr (f : BusInterface → BusInterface) : (s.modBus f).plr = s.plr := rfl
@[simp] theorem State.modBus_window (f : BusInterface → BusInterface) : (s.modBus f).window = s.window := rfl
@[simp] theorem State.modBus_stallLimit (f : BusInterface → BusInterface) : (s.modBus f).stallLimit = s.stallLimit := rfl
@[simp] theorem State.modBus_park (f : BusInterface → BusInterface) : (s.modBus f).park = s.park := rfl
@[simp] theorem State.modBus_reload (f : BusInterface → BusInterface) : (s.modBus f).reload = s.reload := rfl
@[simp] theorem State.modBus_due (f : BusInterface → BusInterface) : (s.modBus f).due = s.due := rfl
@[simp] theorem State.modBus_choices (f : BusInterface → BusInterface) : (s.modBus f).choices = s.choices := rfl
@[simp] theorem State.modBus_pending (f : BusInterface → BusInterface) : (s.modBus f).pending = s.pending := rfl

@[simp] theorem State.modEvu_tmb (f : EventUnit → EventUnit) : (s.modEvu f).tmb = s.tmb := rfl
@[simp] theorem State.modEvu_run (f : EventUnit → EventUnit) : (s.modEvu f).run = s.run := rfl
@[simp] theorem State.modEvu_regs (f : EventUnit → EventUnit) : (s.modEvu f).regs = s.regs := rfl
@[simp] theorem State.modEvu_bus (f : EventUnit → EventUnit) : (s.modEvu f).bus = s.bus := rfl
@[simp] theorem State.modEvu_evu (f : EventUnit → EventUnit) : (s.modEvu f).evu = f s.evu := rfl
@[simp] theorem State.modEvu_fru (f : EventUnit → EventUnit) : (s.modEvu f).fru = s.fru := rfl
@[simp] theorem State.modEvu_heads (f : EventUnit → EventUnit) : (s.modEvu f).heads = s.heads := rfl
@[simp] theorem State.modEvu_sides (f : EventUnit → EventUnit) : (s.modEvu f).sides = s.sides := rfl
@[simp] theorem State.modEvu_lanes (f : EventUnit → EventUnit) : (s.modEvu f).lanes = s.lanes := rfl
@[simp] theorem State.modEvu_alc (f : EventUnit → EventUnit) : (s.modEvu f).alc = s.alc := rfl
@[simp] theorem State.modEvu_ctm (f : EventUnit → EventUnit) : (s.modEvu f).ctm = s.ctm := rfl
@[simp] theorem State.modEvu_men (f : EventUnit → EventUnit) : (s.modEvu f).men = s.men := rfl
@[simp] theorem State.modEvu_plr (f : EventUnit → EventUnit) : (s.modEvu f).plr = s.plr := rfl
@[simp] theorem State.modEvu_window (f : EventUnit → EventUnit) : (s.modEvu f).window = s.window := rfl
@[simp] theorem State.modEvu_stallLimit (f : EventUnit → EventUnit) : (s.modEvu f).stallLimit = s.stallLimit := rfl
@[simp] theorem State.modEvu_park (f : EventUnit → EventUnit) : (s.modEvu f).park = s.park := rfl
@[simp] theorem State.modEvu_reload (f : EventUnit → EventUnit) : (s.modEvu f).reload = s.reload := rfl
@[simp] theorem State.modEvu_due (f : EventUnit → EventUnit) : (s.modEvu f).due = s.due := rfl
@[simp] theorem State.modEvu_choices (f : EventUnit → EventUnit) : (s.modEvu f).choices = s.choices := rfl
@[simp] theorem State.modEvu_pending (f : EventUnit → EventUnit) : (s.modEvu f).pending = s.pending := rfl

@[simp] theorem State.modDue_tmb (f : Due → Due) : (s.modDue f).tmb = s.tmb := rfl
@[simp] theorem State.modDue_run (f : Due → Due) : (s.modDue f).run = s.run := rfl
@[simp] theorem State.modDue_regs (f : Due → Due) : (s.modDue f).regs = s.regs := rfl
@[simp] theorem State.modDue_bus (f : Due → Due) : (s.modDue f).bus = s.bus := rfl
@[simp] theorem State.modDue_evu (f : Due → Due) : (s.modDue f).evu = s.evu := rfl
@[simp] theorem State.modDue_fru (f : Due → Due) : (s.modDue f).fru = s.fru := rfl
@[simp] theorem State.modDue_heads (f : Due → Due) : (s.modDue f).heads = s.heads := rfl
@[simp] theorem State.modDue_sides (f : Due → Due) : (s.modDue f).sides = s.sides := rfl
@[simp] theorem State.modDue_lanes (f : Due → Due) : (s.modDue f).lanes = s.lanes := rfl
@[simp] theorem State.modDue_alc (f : Due → Due) : (s.modDue f).alc = s.alc := rfl
@[simp] theorem State.modDue_ctm (f : Due → Due) : (s.modDue f).ctm = s.ctm := rfl
@[simp] theorem State.modDue_men (f : Due → Due) : (s.modDue f).men = s.men := rfl
@[simp] theorem State.modDue_plr (f : Due → Due) : (s.modDue f).plr = s.plr := rfl
@[simp] theorem State.modDue_window (f : Due → Due) : (s.modDue f).window = s.window := rfl
@[simp] theorem State.modDue_stallLimit (f : Due → Due) : (s.modDue f).stallLimit = s.stallLimit := rfl
@[simp] theorem State.modDue_park (f : Due → Due) : (s.modDue f).park = s.park := rfl
@[simp] theorem State.modDue_reload (f : Due → Due) : (s.modDue f).reload = s.reload := rfl
@[simp] theorem State.modDue_due (f : Due → Due) : (s.modDue f).due = f s.due := rfl
@[simp] theorem State.modDue_choices (f : Due → Due) : (s.modDue f).choices = s.choices := rfl
@[simp] theorem State.modDue_pending (f : Due → Due) : (s.modDue f).pending = s.pending := rfl

@[simp] theorem State.modEntry_tmb (p : Pos) (f : Entry → Entry) : (s.modEntry p f).tmb = s.tmb := rfl
@[simp] theorem State.modEntry_run (p : Pos) (f : Entry → Entry) : (s.modEntry p f).run = s.run := rfl
@[simp] theorem State.modEntry_regs (p : Pos) (f : Entry → Entry) : (s.modEntry p f).regs = s.regs := rfl
@[simp] theorem State.modEntry_bus (p : Pos) (f : Entry → Entry) : (s.modEntry p f).bus = s.bus := rfl
@[simp] theorem State.modEntry_evu (p : Pos) (f : Entry → Entry) : (s.modEntry p f).evu = s.evu := rfl
@[simp] theorem State.modEntry_fru (p : Pos) (f : Entry → Entry) : (s.modEntry p f).fru = s.fru := rfl
@[simp] theorem State.modEntry_heads (p : Pos) (f : Entry → Entry) : (s.modEntry p f).heads = s.heads := rfl
@[simp] theorem State.modEntry_sides (p : Pos) (f : Entry → Entry) : (s.modEntry p f).sides = s.sides := rfl
@[simp] theorem State.modEntry_lanes (p : Pos) (f : Entry → Entry) : (s.modEntry p f).lanes = s.lanes := rfl
@[simp] theorem State.modEntry_alc (p : Pos) (f : Entry → Entry) : (s.modEntry p f).alc = s.alc := rfl
@[simp] theorem State.modEntry_ctm (p : Pos) (f : Entry → Entry) : (s.modEntry p f).ctm = s.ctm := rfl
@[simp] theorem State.modEntry_men (p : Pos) (f : Entry → Entry) : (s.modEntry p f).men = s.men := rfl
@[simp] theorem State.modEntry_plr (p : Pos) (f : Entry → Entry) : (s.modEntry p f).plr = s.plr := rfl
@[simp] theorem State.modEntry_window (p : Pos) (f : Entry → Entry) : (s.modEntry p f).window = modEntries p f s.window := rfl
@[simp] theorem State.modEntry_stallLimit (p : Pos) (f : Entry → Entry) : (s.modEntry p f).stallLimit = s.stallLimit := rfl
@[simp] theorem State.modEntry_park (p : Pos) (f : Entry → Entry) : (s.modEntry p f).park = s.park := rfl
@[simp] theorem State.modEntry_reload (p : Pos) (f : Entry → Entry) : (s.modEntry p f).reload = s.reload := rfl
@[simp] theorem State.modEntry_due (p : Pos) (f : Entry → Entry) : (s.modEntry p f).due = s.due := rfl
@[simp] theorem State.modEntry_choices (p : Pos) (f : Entry → Entry) : (s.modEntry p f).choices = s.choices := rfl
@[simp] theorem State.modEntry_pending (p : Pos) (f : Entry → Entry) : (s.modEntry p f).pending = s.pending := rfl

@[simp] theorem State.modPoint_tmb (p : Pos) (n : PointName) (f : Point → Point) : (s.modPoint p n f).tmb = s.tmb := rfl
@[simp] theorem State.modPoint_run (p : Pos) (n : PointName) (f : Point → Point) : (s.modPoint p n f).run = s.run := rfl
@[simp] theorem State.modPoint_regs (p : Pos) (n : PointName) (f : Point → Point) : (s.modPoint p n f).regs = s.regs := rfl
@[simp] theorem State.modPoint_bus (p : Pos) (n : PointName) (f : Point → Point) : (s.modPoint p n f).bus = s.bus := rfl
@[simp] theorem State.modPoint_evu (p : Pos) (n : PointName) (f : Point → Point) : (s.modPoint p n f).evu = s.evu := rfl
@[simp] theorem State.modPoint_fru (p : Pos) (n : PointName) (f : Point → Point) : (s.modPoint p n f).fru = s.fru := rfl
@[simp] theorem State.modPoint_heads (p : Pos) (n : PointName) (f : Point → Point) : (s.modPoint p n f).heads = s.heads := rfl
@[simp] theorem State.modPoint_sides (p : Pos) (n : PointName) (f : Point → Point) : (s.modPoint p n f).sides = s.sides := rfl
@[simp] theorem State.modPoint_lanes (p : Pos) (n : PointName) (f : Point → Point) : (s.modPoint p n f).lanes = s.lanes := rfl
@[simp] theorem State.modPoint_alc (p : Pos) (n : PointName) (f : Point → Point) : (s.modPoint p n f).alc = s.alc := rfl
@[simp] theorem State.modPoint_ctm (p : Pos) (n : PointName) (f : Point → Point) : (s.modPoint p n f).ctm = s.ctm := rfl
@[simp] theorem State.modPoint_men (p : Pos) (n : PointName) (f : Point → Point) : (s.modPoint p n f).men = s.men := rfl
@[simp] theorem State.modPoint_plr (p : Pos) (n : PointName) (f : Point → Point) : (s.modPoint p n f).plr = s.plr := rfl
@[simp] theorem State.modPoint_window (p : Pos) (n : PointName) (f : Point → Point) : (s.modPoint p n f).window = modEntries p (·.modPoint n f) s.window := rfl
@[simp] theorem State.modPoint_stallLimit (p : Pos) (n : PointName) (f : Point → Point) : (s.modPoint p n f).stallLimit = s.stallLimit := rfl
@[simp] theorem State.modPoint_park (p : Pos) (n : PointName) (f : Point → Point) : (s.modPoint p n f).park = s.park := rfl
@[simp] theorem State.modPoint_reload (p : Pos) (n : PointName) (f : Point → Point) : (s.modPoint p n f).reload = s.reload := rfl
@[simp] theorem State.modPoint_due (p : Pos) (n : PointName) (f : Point → Point) : (s.modPoint p n f).due = s.due := rfl
@[simp] theorem State.modPoint_choices (p : Pos) (n : PointName) (f : Point → Point) : (s.modPoint p n f).choices = s.choices := rfl
@[simp] theorem State.modPoint_pending (p : Pos) (n : PointName) (f : Point → Point) : (s.modPoint p n f).pending = s.pending := rfl

end

/-! ### Reading back through the accessors -/

@[simp] theorem State.head_setHead (s : State) (h g : HeadId) (x : Head) :
    (s.setHead h x).head g = if g = h then x else s.head g := PerHead.get_set _ _ _ _

@[simp] theorem State.head_modHead (s : State) (h g : HeadId) (f : Head → Head) :
    (s.modHead h f).head g = if g = h then f (s.head h) else s.head g := PerHead.get_set _ _ _ _

@[simp] theorem State.lane_setLane (s : State) (l g : HeadId) (x : Lane) :
    (s.setLane l x).lane g = if g = l then x else s.lane g := PerHead.get_set _ _ _ _

@[simp] theorem State.lane_modLane (s : State) (l g : HeadId) (f : Lane → Lane) :
    (s.modLane l f).lane g = if g = l then f (s.lane l) else s.lane g := PerHead.get_set _ _ _ _

@[simp] theorem State.contact_modContact (s : State) (h g : HeadId) (f : Contact → Contact) :
    (s.modContact h f).contact g = if g = h then f (s.contact h) else s.contact g := PerHead.get_set _ _ _ _

/-! ### The window -/

@[simp] theorem modEntries_length (p : Pos) (f : Entry → Entry) (es : List Entry) :
    (modEntries p f es).length = es.length := by simp [modEntries]

/-- Changing an entry leaves the plan positions of the window. -/
@[simp] theorem modEntries_pos (p : Pos) (f : Entry → Entry) (es : List Entry) :
    (modEntries p f es).map (·.pos) = es.map (·.pos) := by
  simp only [modEntries, List.map_map]
  apply List.map_congr_left
  intro e _
  simp only [Function.comp]
  split <;> rfl

/-- The entry found at a position after a change there is the old one changed. -/
theorem modEntries_find (p : Pos) (f : Entry → Entry) (es : List Entry) :
    (modEntries p f es).find? (fun e => e.pos = p) =
      (es.find? (fun e => e.pos = p)).map fun e => { f e with pos := e.pos } := by
  induction es with
  | nil => rfl
  | cons e es ih =>
    simp only [modEntries, List.map_cons] at ih ⊢
    by_cases h : e.pos = p
    · simp [h]
    · simpa [h] using ih

@[simp] theorem State.entry?_modEntry (s : State) (p : Pos) (f : Entry → Entry) :
    (s.modEntry p f).entry? p = (s.entry? p).map fun e => { f e with pos := e.pos } := modEntries_find p f s.window

end Sys2Proof.Machine
end

