-- ==== Sys2Proof/Laws/FollowUp.lean ====
section
/-! SUPPORT. What follows an event: when a state has nothing left to follow, one condition for each of the follow-ups, and what an
event leaves when its own effect brings nothing more. -/

namespace Sys2Proof.Machine

/-! ### An event begins and ends -/

section
variable (s : State)
@[simp] theorem State.begin_tmb : s.begin.tmb = s.tmb := rfl
@[simp] theorem State.begin_run : s.begin.run = s.run := rfl
@[simp] theorem State.begin_regs : s.begin.regs = s.regs := rfl
@[simp] theorem State.begin_bus : s.begin.bus = s.bus := rfl
@[simp] theorem State.begin_evu : s.begin.evu = s.evu := rfl
@[simp] theorem State.begin_fru : s.begin.fru = s.fru := rfl
@[simp] theorem State.begin_heads : s.begin.heads = s.heads := rfl
@[simp] theorem State.begin_sides : s.begin.sides = s.sides := rfl
@[simp] theorem State.begin_lanes : s.begin.lanes = s.lanes := rfl
@[simp] theorem State.begin_alc : s.begin.alc = s.alc := rfl
@[simp] theorem State.begin_ctm : s.begin.ctm = s.ctm := rfl
@[simp] theorem State.begin_men : s.begin.men = s.men := rfl
@[simp] theorem State.begin_plr : s.begin.plr = s.plr := rfl
@[simp] theorem State.begin_window : s.begin.window = s.window := rfl
@[simp] theorem State.begin_stallLimit : s.begin.stallLimit = s.stallLimit := rfl
@[simp] theorem State.begin_park : s.begin.park = s.park := rfl
@[simp] theorem State.begin_reload : s.begin.reload = s.reload := rfl
@[simp] theorem State.begin_choices : s.begin.choices = s.choices := rfl
@[simp] theorem State.begin_pending : s.begin.pending = s.pending := rfl
@[simp] theorem State.begin_head (h : HeadId) : s.begin.head h = s.head h := rfl
@[simp] theorem State.begin_lane (h : HeadId) : s.begin.lane h = s.lane h := rfl
@[simp] theorem State.begin_contact (h : HeadId) : s.begin.contact h = s.contact h := rfl
@[simp] theorem State.begin_due : s.begin.due = { Due.none with runBefore := s.run.state } := rfl
end

/-- Nothing is due on an event but what its own effect calls for. -/
def Due.clear (u : Due) : Prop := u.faulted = false ∧ u.evalTop = false ∧ u.evalBottom = false ∧ u.planEnd = false

theorem State.begin_clear (s : State) : s.begin.due.clear := ⟨rfl, rfl, rfl, rfl⟩

/-! ### When each follow-up has nothing to do -/

theorem faultDue_none {s : State} : s.faultDue = none ↔ s.due.faulted = false := by
  unfold State.faultDue; cases s.due.faulted <;> simp

theorem evalDue_none {s : State} : s.evalDue = none ↔ s.due.evalTop = false ∧ s.due.evalBottom = false := by
  unfold State.evalDue; cases s.due.evalTop <;> cases s.due.evalBottom <;> simp

theorem liftingEnd_none {s : State} :
    s.liftingEnd = none ↔ ∀ e ∈ s.window, e.phase = .lifting → s.allReleased e.pos = false := by
  unfold State.liftingEnd; simp

theorem homingEnd_none {s : State} :
    s.homingEnd = none ↔
      ∀ e d, (s.window.findSome? fun e => e.homes.map fun d => (e, d)) = some (e, d) →
        ∃ h ∈ d.heads, (s.head h).state = .homing := by
  unfold State.homingEnd
  cases h : s.window.findSome? fun e => e.homes.map fun d => (e, d) with
  | none => simp
  | some ed =>
    obtain ⟨e, d⟩ := ed
    simp only [Option.bind_some, Option.some.injEq, Prod.mk.injEq, and_imp]
    constructor
    · intro hn e' d' he hd
      subst he; subst hd
      split at hn
      · rename_i hx; simpa using hx
      · split at hn <;> simp at hn
    · intro hx
      have := hx e d rfl rfl
      rw [if_pos (by simpa using this)]

theorem parkStep_none {s : State} : s.parkStep = none ↔ ∀ k, s.park = some k → k.current.isSome = true := by
  unfold State.parkStep
  cases s.park with
  | none => simp
  | some k =>
    simp only [Option.bind_some, Option.some.injEq, forall_eq']
    constructor
    · intro h
      split at h
      · assumption
      · split at h
        · split at h
          · simp at h
          · split at h <;> simp at h
        · split at h <;> simp at h
    · intro h; simp [h]

theorem engineTake_none {s : State} :
    s.engineTake = none ↔ (s.men.phase = .free → ∀ e, s.oldestLanded = some e → e.kind = none) := by
  unfold State.engineTake
  split
  · rename_i hf
    simp only [hf, forall_const]
    cases s.oldestLanded <;> simp
  · rename_i hf; simp [hf]

theorem retirePage_none {s : State} :
    s.retirePage = none ↔ ∀ p ps, s.plr.pages = p :: ps → ¬(p.complete = true ∧ p.retired = p.heldCount) := by
  unfold State.retirePage
  split
  · rename_i h; simp [h]
  · rename_i p ps h
    simp only [h, List.cons.injEq, and_imp]
    split
    · rename_i hc
      constructor
      · intro hx; simp at hx
      · intro hx
        have := hx p ps rfl rfl
        simp only [Bool.and_eq_true, beq_iff_eq] at hc
        exact absurd hc this
    · rename_i hc
      simp only [true_iff]
      intro a as ha _
      subst ha
      simpa using hc

theorem retireOne_none {s : State} :
    s.retireOne = none ↔ ∀ e es, s.window = e :: es → ¬(e.phase = .done ∧ e.written = true) := by
  unfold State.retireOne
  split
  · rename_i h; simp [h]
  · rename_i e es h
    simp only [h, List.cons.injEq, and_imp]
    split
    · rename_i hc
      constructor
      · intro hx; simp at hx
      · intro hx
        have := hx e es rfl rfl
        simp only [Bool.and_eq_true, decide_eq_true_eq] at hc
        exact absurd hc this
    · rename_i hc
      simp only [true_iff]
      intro a as ha _
      subst ha
      simpa using hc

theorem retireStep_none {s : State} : s.retireStep = none ↔ s.retirePage = none ∧ s.retireOne = none := by
  unfold State.retireStep
  split <;> simp_all

theorem retireDue_none {s : State} : s.retireDue = none ↔ (s.run.state.retires = true → s.retireStep = none) := by
  unfold State.retireDue; split <;> simp_all

theorem planEndDue_none {s : State} : s.planEndDue = none ↔ s.due.planEnd = false := by
  unfold State.planEndDue; cases s.due.planEnd <;> simp

theorem activateOne_none {s : State} :
    s.activateOne = none ↔ (s.run.state = .running → ∀ e ∈ s.window, s.activatable e = none) := by
  unfold State.activateOne; split <;> simp_all

theorem dispatchOne_none {s : State} : s.dispatchOne = none ↔ ∀ e ∈ s.window, s.dispatchable e = false := by
  unfold State.dispatchOne
  split
  · rename_i h; simpa using h
  · rename_i e es h
    have : e ∈ s.window.filter s.dispatchable := by rw [h]; simp
    simp only [List.mem_filter] at this
    constructor
    · intro hx; simp at hx
    · intro hx; have := hx e this.1; simp_all

theorem drainEnd_none {s : State} : s.drainEnd = none ↔ (s.run.state = .draining → s.drained = false) := by
  unfold State.drainEnd; split <;> simp_all

/-- The fetch point waits (R148-R152). -/
def State.fetchWaits (s : State) : Prop :=
  match s.plr.fetch with
  | .paused | .planEnd => True
  | .header => s.headerReadOut = true
  | .take =>
    ∀ p, s.fetchPage = some p →
      ¬p.heldCount ≤ p.taken ∧ ¬s.window.length + s.recordReads.length < Config.windowSize
  | .poll => s.plr.pollTimer.isSome = true
  | .chain => s.plr.chain.isSome = true → ¬s.plr.pages.length < Config.pageListSize

theorem fetchStep_none {s : State} : s.fetchStep = none ↔ (s.run.state = .running → s.fetchWaits) := by
  unfold State.fetchStep State.fetchWaits
  split
  · simp_all
  · rename_i hr
    simp only [Decidable.not_not] at hr
    simp only [hr, forall_const]
    cases s.plr.fetch with
    | paused => simp
    | planEnd => simp
    | header =>
      simp only
      split
      · simp_all
      · split <;> simp_all
    | take =>
      simp only
      split
      · simp_all
      · rename_i p hp
        simp only [hp, Option.some.injEq, forall_eq']
        split
        · simp_all
        · split <;> simp_all
    | poll =>
      simp only
      split <;> simp_all
    | chain =>
      simp only
      split
      · simp_all
      · rename_i hc
        simp only [hc]
        split <;> simp_all

/-- A state has nothing left to follow when none of the follow-ups has anything to do. -/
theorem followUp_none {s : State} :
    s.followUp = none ↔ s.due.clear ∧ s.liftingEnd = none ∧ s.homingEnd = none ∧ s.parkStep = none ∧ s.engineTake = none
      ∧ s.retireDue = none ∧ s.activateOne = none ∧ s.dispatchOne = none ∧ s.fetchStep = none ∧ s.drainEnd = none := by
  have a := faultDue_none (s := s)
  have b := evalDue_none (s := s)
  have c := planEndDue_none (s := s)
  unfold State.followUp Due.clear
  cases h1 : s.faultDue <;> cases h2 : s.evalDue <;> cases h3 : s.liftingEnd <;> simp_all
  cases h4 : s.homingEnd <;> cases h5 : s.parkStep <;> cases h6 : s.engineTake <;> cases h7 : s.retireDue <;> simp_all
  cases h8 : s.planEndDue <;> cases h9 : s.activateOne <;> cases h10 : s.dispatchOne <;> cases h11 : s.fetchStep <;>
    simp_all

/-! ### Events that nothing follows -/

theorem settle_of_none {s : State} (n : Nat) (h : s.followUp = none) : settle n s = s := by
  cases n with
  | zero => rfl
  | succ n => simp [settle, h]

theorem settle_of_some {s t : State} (n : Nat) (h : s.followUp = some t) : settle (n + 1) s = settle n t := by
  simp [settle, h]

/-- An event whose own effect leaves nothing to follow. -/
theorem event_of_none {s : State} {f : State → State} (hr : s.run.resetHeld = false)
    (h : (f s.begin).followUp = none) : s.event f = (f s.begin).finish := by
  simp [State.event, hr, followUps, settle_of_none _ h]

/-- An event of the kind that nothing follows. -/
theorem plain_eq {s : State} {f : State → State} (hr : s.run.resetHeld = false) : s.plain f = (f s.begin).finish := by
  simp [State.plain, hr]

/-- While RESET_N is held an event leaves the part alone (R176). -/
theorem event_held {s : State} {f : State → State} (hr : s.run.resetHeld = true) : s.event f = s := by
  simp [State.event, hr]

theorem plain_held {s : State} {f : State → State} (hr : s.run.resetHeld = true) : s.plain f = s := by
  simp [State.plain, hr]

/-! ### Two states with one course -/

/-- Two states agree in everything that decides whether something follows. -/
structure SameCourse (s t : State) : Prop where
  window : t.window = s.window
  park : t.park = s.park
  run : t.run.state = s.run.state
  phase : t.men.phase = s.men.phase
  served : t.men.served = s.men.served
  plr : t.plr = s.plr
  reads : t.bus.reads = s.bus.reads
  state : ∀ h, (t.head h).state = (s.head h).state
  assigned : ∀ h, (t.head h).assigned = (s.head h).assigned

theorem SameCourse.followUp {s t : State} (c : SameCourse s t) (ht : t.due.clear) (hs : s.followUp = none) :
    t.followUp = none := by
  rw [followUp_none] at hs ⊢
  obtain ⟨-, h1, h2, h3, h4, h5, h6, h7, h8, h9⟩ := hs
  refine ⟨ht, ?_, ?_, ?_, ?_, ?_, ?_, ?_, ?_, ?_⟩
  · rw [liftingEnd_none] at h1 ⊢
    simpa only [c.window, State.allReleased, c.state, c.assigned] using h1
  · rw [homingEnd_none] at h2 ⊢
    simpa only [c.window, c.state] using h2
  · rw [parkStep_none] at h3 ⊢
    simpa only [c.park] using h3
  · rw [engineTake_none] at h4 ⊢
    have hst : t.stepState = s.stepState := by funext e; simp only [State.stepState, c.served]
    have hold : t.oldestLanded = s.oldestLanded := by simp only [State.oldestLanded, c.window, hst]
    rw [hold, c.phase]; exact h4
  · rw [retireDue_none, retireStep_none, retirePage_none, retireOne_none] at h5 ⊢
    simpa only [c.run, c.plr, c.window] using h5
  · rw [activateOne_none] at h6 ⊢
    have ho : t.ordered = s.ordered := by
      funext e k; simp only [State.ordered, State.olderThan, c.window, c.state]
    have hact : t.activatable = s.activatable := by funext e; simp only [State.activatable, ho]
    rw [c.run, c.window, hact]; exact h6
  · rw [dispatchOne_none] at h7 ⊢
    simpa only [c.run, c.window, State.dispatchable, State.olderThan] using h7
  · rw [fetchStep_none] at h8 ⊢
    simpa only [c.run, c.window, State.fetchWaits, State.headerReadOut, State.fetchPage, State.recordReads, c.plr,
      c.reads] using h8
  · rw [drainEnd_none] at h9 ⊢
    simpa only [c.run, c.window, State.drained, c.state] using h9

/-- In a settled state, an event whose own effect leaves the course as it was and makes nothing due has no more to it. -/
theorem event_of_course {s : State} {f : State → State} (hs : s.Settled) (c : SameCourse s (f s.begin))
    (hd : (f s.begin).due.clear) : s.event f = (f s.begin).finish :=
  event_of_none hs.1 (SameCourse.followUp (s := s.begin)
    ⟨c.window, c.park, c.run, c.phase, c.served, c.plr, c.reads, c.state, c.assigned⟩ hd hs.2)

/-! ### Evaluations with nobody waiting -/

theorem evaluate_none_waiting {s : State} (h : ∀ e ∈ s.window, e.phase ≠ .waiting) (d : Side) : s.evaluate d = s := by
  have : s.waitersOn d = [] := by
    simp only [State.waitersOn, List.map_eq_nil_iff, List.filter_eq_nil_iff]
    intro e he
    simp [h e he]
  simp [State.evaluate, this]

/-! ### States at rest -/

/-- In STOPPED, with an empty window and no PARK, only what the event itself has made due follows. -/
theorem followUp_resting {s : State} (hw : s.window = []) (hp : s.park = none) (hr : s.run.state = .stopped)
    (hd : s.due.clear) : s.followUp = none := by
  rw [followUp_none]
  refine ⟨hd, ?_, ?_, ?_, ?_, ?_, ?_, ?_, ?_, ?_⟩
  · simp [liftingEnd_none, hw]
  · simp [homingEnd_none, hw]
  · simp [parkStep_none, hp]
  · rw [engineTake_none]; intro _ e he; simp [State.oldestLanded, hw] at he
  · rw [retireDue_none, hr]; intro h; simp [RunState.retires] at h
  · rw [activateOne_none, hr]; intro h; cases h
  · simp [dispatchOne_none, hw]
  · simp [State.fetchStep, hr]
  · rw [drainEnd_none, hr]; intro h; cases h

/-- An event in STOPPED with an empty window and no PARK, which may have called for the evaluation of one side. -/
theorem event_resting {s : State} {f : State → State} (hs : s.Resting) (hw : (f s.begin).window = [])
    (hp : (f s.begin).park = none) (hr : (f s.begin).run.state = .stopped) (hf : (f s.begin).due.faulted = false)
    (he : (f s.begin).due.planEnd = false)
    (ho : (f s.begin).due.evalTop = false ∨ (f s.begin).due.evalBottom = false) :
    s.event f = (f s.begin).finish := by
  by_cases hc : (f s.begin).due.clear
  · exact event_of_none hs.1 (followUp_resting hw hp hr hc)
  · have key : ∃ d, (f s.begin).followUp = some ((f s.begin).evaluateDue d)
        ∧ ((f s.begin).evaluateDue d) =
          (f s.begin).modDue fun u => { u with evalTop := false, evalBottom := false } := by
      have hev : ∀ (d : Side) (t : State), t.window = [] → t.evaluate d = t := fun d t ht =>
        evaluate_none_waiting (by simp [ht]) d
      have h0 := (faultDue_none (s := f s.begin)).2 hf
      cases ht : (f s.begin).due.evalTop <;> cases hb : (f s.begin).due.evalBottom
      · exact absurd ⟨hf, ht, hb, he⟩ hc
      · refine ⟨.bottom, by simp [State.followUp, h0, State.evalDue, ht, hb], ?_⟩
        unfold State.evaluateDue
        rw [hev .bottom _ (by simpa using hw)]
        simp [State.modDue, ht]
      · refine ⟨.top, by simp [State.followUp, h0, State.evalDue, ht, hb], ?_⟩
        unfold State.evaluateDue
        rw [hev .top _ (by simpa using hw)]
        simp [State.modDue, hb]
      · rcases ho with h | h <;> simp_all
    obtain ⟨d, h1, h2⟩ := key
    have h3 : ((f s.begin).modDue fun u => { u with evalTop := false, evalBottom := false }).followUp = none :=
      followUp_resting (by simpa using hw) (by simpa using hp) (by simpa using hr) ⟨by simpa using hf, rfl, rfl, by simpa using he⟩
    have h4 : s.event f = (settle 999 ((f s.begin).evaluateDue d)).finish := by
      simp only [State.event, hs.1, followUps]
      rw [if_neg (by simp), settle_of_some 999 h1]
    rw [h4, h2, settle_of_none 999 h3]
    rfl

end Sys2Proof.Machine
end

