-- ==== Sys2Proof/Laws/Ops.lean ====
section
/-! SUPPORT. One lemma for each shared operation: everything it can do, in terms of State's own fields. -/

namespace Sys2Proof

@[simp] theorem PerHead.set_set {α : Type} (v : PerHead α) (h : HeadId) (a b : α) : (v.set h a).set h b = v.set h b := by
  match h with
  | 0 => rfl
  | 1 => rfl
  | 2 => rfl
  | 3 => rfl
  | 4 => rfl
  | 5 => rfl
  | 6 => rfl
  | 7 => rfl

@[simp] theorem PerHead.set_get {α : Type} (v : PerHead α) (h : HeadId) : v.set h (v.get h) = v := by
  match h with
  | 0 => rfl
  | 1 => rfl
  | 2 => rfl
  | 3 => rfl
  | 4 => rfl
  | 5 => rfl
  | 6 => rfl
  | 7 => rfl

end Sys2Proof

namespace Sys2Proof.Machine

/-! ### Two updates of one item are one -/

theorem State.modHead_modHead (s : State) (h : HeadId) (f g : Head → Head) :
    (s.modHead h f).modHead h g = s.modHead h fun x => g (f x) := by
  simp [State.modHead, State.setHead, State.head]

theorem State.modLane_modLane (s : State) (h : HeadId) (f g : Lane → Lane) :
    (s.modLane h f).modLane h g = s.modLane h fun x => g (f x) := by
  simp [State.modLane, State.setLane, State.lane]

theorem State.modContact_modContact (s : State) (h : HeadId) (f g : Contact → Contact) :
    (s.modContact h f).modContact h g = s.modContact h fun x => g (f x) := by
  simp [State.modContact, State.contact]

theorem State.modEntry_modEntry (s : State) (p : Pos) (f g : Entry → Entry) :
    (s.modEntry p f).modEntry p g = s.modEntry p fun e => g { f e with pos := e.pos } := by
  simp only [State.modEntry, modEntries, List.map_map]
  congr 1
  apply List.map_congr_left
  intro e _
  simp only [Function.comp]
  split <;> simp_all

/-! ### Free choices -/

/-- A choice among one thing or none draws on nothing. -/
theorem choose_one (s : State) (n : Nat) (h : n ≤ 1) : s.choose n = (0, s) := by simp [State.choose, h]

/-- A choice changes at most the count of choices drawn. -/
theorem choose_only (s : State) (n : Nat) : ∃ cs, (s.choose n).2 = { s with choices := cs } := by
  unfold State.choose
  split <;> exact ⟨_, rfl⟩

/-- A choice names one of the things there are. -/
theorem choose_lt (s : State) (n : Nat) (h : 0 < n) : (s.choose n).1 < n := by
  unfold State.choose
  split
  · exact h
  · exact Nat.mod_lt _ h

/-! ### Events and the interrupt message (R186-R189) -/

/-- New values of EVENTS and EVENT_ENABLE change the two registers, and the write queue by at most one message. -/
theorem putEvents_eq (s : State) (ev en : BitVec 8) :
    s.putEvents ev en =
      { s with
        evu := { s.evu with events := ev, enables := en }
        bus :=
          if !interruptCondition s.evu.events s.evu.enables && interruptCondition ev en && s.bus.msiEnable then
            { s.bus with
              writes := s.bus.writes ++ [⟨s.bus.nextWrite, .message, 0, 0, 0⟩], nextWrite := s.bus.nextWrite + 1 }
          else s.bus } := by
  unfold State.putEvents
  simp only
  split <;> rfl

/-- Setting an event flag sets its bit, and queues at most one message. -/
theorem setEvent_eq (s : State) (e : Event) :
    s.setEvent e =
      { s with
        evu := { s.evu with events := s.evu.events ||| e.bit }
        bus :=
          if !interruptCondition s.evu.events s.evu.enables
              && interruptCondition (s.evu.events ||| e.bit) s.evu.enables && s.bus.msiEnable then
            { s.bus with
              writes := s.bus.writes ++ [⟨s.bus.nextWrite, .message, 0, 0, 0⟩], nextWrite := s.bus.nextWrite + 1 }
          else s.bus } := putEvents_eq s _ _

@[simp] theorem setEvent_begin (s : State) (e : Event) : (s.begin.setEvent e).finish = (s.setEvent e).finish := by
  simp only [setEvent_eq]; rfl

/-! ### Reads (R140, R143) -/

/-- Requests of reads in a row join the list of reads in flight in that order, with the next identities. -/
theorem pushReads_eq (s : State) (purpose : Nat → ReadPurpose) (addr : Nat → Addr) (n : Nat) :
    (List.range n).foldl (fun s i => s.pushRead (purpose i) (addr i)) s =
      s.modBus fun b =>
        { b with
          reads := b.reads ++ (List.range n).map fun i =>
            ⟨s.bus.nextRead + i, purpose i, addr i, s.plr.generation, 0, none⟩
          nextRead := b.nextRead + n } := by
  induction n with
  | zero => simp [State.modBus]
  | succ n ih =>
    rw [List.range_succ, List.foldl_append, ih]
    simp [State.pushRead, State.modBus, Nat.add_assoc]

/-! ### Writes and BIF's check (R143, R157) -/

/-- An access inside a control block that stays within the address space is allowed. -/
theorem allowed_in_block {s : State} (h : s.BlockReachable) (off len : Nat) (hl : off + len ≤ Config.blockBytes)
    (ho : off < Config.blockBytes) : s.allowed (s.bus.cba + BitVec.ofNat 64 off) len = true := by
  unfold State.BlockReachable at h
  simp only [Config.blockBytes] at *
  have : (s.bus.cba + BitVec.ofNat 64 off).toNat = s.bus.cba.toNat + off := by
    rw [BitVec.toNat_add, BitVec.toNat_ofNat]
    omega
  simp only [State.allowed, spanInside, this, Bool.or_eq_true, decide_eq_true_eq, Config.blockBytes]
  left
  omega

/-- A write that BIF allows joins the queue. -/
theorem requestWrite_allowed {s : State} {tag : WriteTag} {addr : Addr} {len : Nat} {data : BitVec 256} {step : Option Pos}
    (h : s.allowed addr len = true) : s.requestWrite tag addr len data step = s.pushWrite tag addr len data := by
  simp [State.requestWrite, h]

/-! ### The fault log (R182-R184) -/

/-- Setting overflow sets the flag, and with it the LOG_OVERFLOW event when it was clear. -/
theorem setOverflow_only (s : State) : ∃ evu bus, s.setOverflow = { s with evu := evu, bus := bus } := by
  unfold State.setOverflow
  split
  · exact ⟨_, _, rfl⟩
  · rw [setEvent_eq]; exact ⟨_, _, rfl⟩

/-- A record that BIF allows changes the log and the write queue; one that it refuses calls for FAULTED. -/
theorem recordFault_only (s : State) (f : FaultRecord) :
    (s.allowed (logSlot s.evu.base s.evu.sizeCode s.evu.writeIdx) 32 = true →
        ∃ evu bus, s.recordFault f = { s with evu := evu, bus := bus })
      ∧ (s.allowed (logSlot s.evu.base s.evu.sizeCode s.evu.writeIdx) 32 = false →
        s.recordFault f = { s with due := { s.due with faulted := true } }) := by
  constructor
  · intro h
    simp only [State.recordFault, h, if_true, setEvent_eq]
    exact ⟨_, _, rfl⟩
  · intro h
    simp only [State.recordFault, h]
    rfl

/-- Taking a fault changes the log, the queues of reads and writes, and what is due. -/
theorem takeFault_only (s : State) (f : FaultRecord) :
    ∃ evu bus due, s.takeFault f = { s with evu := evu, bus := bus, due := due } := by
  unfold State.takeFault
  repeat' split
  · exact ⟨_, _, _, rfl⟩
  · exact ⟨_, _, _, rfl⟩
  · obtain ⟨_, _, h⟩ := setOverflow_only s; rw [h]; exact ⟨_, _, _, rfl⟩
  · exact ⟨_, _, _, rfl⟩
  · cases ha : s.allowed (logSlot s.evu.base s.evu.sizeCode s.evu.writeIdx) 32
    · rw [(recordFault_only s f).2 ha]; exact ⟨_, _, _, rfl⟩
    · obtain ⟨_, _, h⟩ := (recordFault_only s f).1 ha; rw [h]; exact ⟨_, _, _, rfl⟩
  · exact ⟨_, _, _, rfl⟩

/-- Where the log is reachable, taking a fault makes nothing due. -/
theorem takeFault_due {s : State} (f : FaultRecord) (h : s.LogReachable) : (s.takeFault f).due = s.due := by
  unfold State.LogReachable State.LogOff at h
  unfold State.takeFault
  repeat' split
  · rfl
  · rfl
  · obtain ⟨_, _, h⟩ := setOverflow_only s; rw [h]
  · rfl
  · rcases h with (h | h) | h
    · simp_all
    · simp_all
    · obtain ⟨_, _, h⟩ := (recordFault_only s f).1 h; rw [h]
  · rfl

section
variable (s : State) (f : FaultRecord)

@[simp] theorem takeFault_tmb : (s.takeFault f).tmb = s.tmb := by obtain ⟨_, _, _, h⟩ := takeFault_only s f; rw [h]
@[simp] theorem takeFault_run : (s.takeFault f).run = s.run := by obtain ⟨_, _, _, h⟩ := takeFault_only s f; rw [h]
@[simp] theorem takeFault_regs : (s.takeFault f).regs = s.regs := by obtain ⟨_, _, _, h⟩ := takeFault_only s f; rw [h]
@[simp] theorem takeFault_fru : (s.takeFault f).fru = s.fru := by obtain ⟨_, _, _, h⟩ := takeFault_only s f; rw [h]
@[simp] theorem takeFault_heads : (s.takeFault f).heads = s.heads := by obtain ⟨_, _, _, h⟩ := takeFault_only s f; rw [h]
@[simp] theorem takeFault_sides : (s.takeFault f).sides = s.sides := by obtain ⟨_, _, _, h⟩ := takeFault_only s f; rw [h]
@[simp] theorem takeFault_lanes : (s.takeFault f).lanes = s.lanes := by obtain ⟨_, _, _, h⟩ := takeFault_only s f; rw [h]
@[simp] theorem takeFault_alc : (s.takeFault f).alc = s.alc := by obtain ⟨_, _, _, h⟩ := takeFault_only s f; rw [h]
@[simp] theorem takeFault_ctm : (s.takeFault f).ctm = s.ctm := by obtain ⟨_, _, _, h⟩ := takeFault_only s f; rw [h]
@[simp] theorem takeFault_men : (s.takeFault f).men = s.men := by obtain ⟨_, _, _, h⟩ := takeFault_only s f; rw [h]
@[simp] theorem takeFault_plr : (s.takeFault f).plr = s.plr := by obtain ⟨_, _, _, h⟩ := takeFault_only s f; rw [h]
@[simp] theorem takeFault_window : (s.takeFault f).window = s.window := by obtain ⟨_, _, _, h⟩ := takeFault_only s f; rw [h]
@[simp] theorem takeFault_park : (s.takeFault f).park = s.park := by obtain ⟨_, _, _, h⟩ := takeFault_only s f; rw [h]
@[simp] theorem takeFault_reload : (s.takeFault f).reload = s.reload := by obtain ⟨_, _, _, h⟩ := takeFault_only s f; rw [h]
@[simp] theorem takeFault_pending : (s.takeFault f).pending = s.pending := by obtain ⟨_, _, _, h⟩ := takeFault_only s f; rw [h]
@[simp] theorem takeFault_choices : (s.takeFault f).choices = s.choices := by obtain ⟨_, _, _, h⟩ := takeFault_only s f; rw [h]
@[simp] theorem takeFault_head (h : HeadId) : (s.takeFault f).head h = s.head h := by simp [State.head]
@[simp] theorem takeFault_lane (h : HeadId) : (s.takeFault f).lane h = s.lane h := by simp [State.lane]

/-- Taking a fault looks at the log, at BIF's queues and at the read generation only: other items may be set before it or
after it. -/
theorem takeFault_with (hs : PerHead Head) (ls : PerHead Lane) (c : ContactMonitor) (w : List Entry) :
    ({ s with heads := hs, lanes := ls, ctm := c, window := w } : State).takeFault f =
      { s.takeFault f with heads := hs, lanes := ls, ctm := c, window := w } := by
  have ha : ({ s with heads := hs, lanes := ls, ctm := c, window := w } : State).allowed = s.allowed := rfl
  unfold State.takeFault
  simp only
  split
  · rfl
  split
  · rfl
  split
  · split
    · unfold State.setOverflow
      simp only [setEvent_eq]
      split <;> rfl
    · rfl
  split
  · unfold State.recordFault
    simp only [ha]
    split
    · simp only [setEvent_eq]; rfl
    · rfl
  · rfl

theorem takeFault_modHead (h : HeadId) (g : Head → Head) :
    (s.modHead h g).takeFault f = (s.takeFault f).modHead h g := by
  have := takeFault_with s f (s.heads.set h (g (s.head h))) s.lanes s.ctm s.window
  refine this.trans ?_
  obtain ⟨_, _, _, h'⟩ := takeFault_only s f
  rw [h']; rfl

theorem takeFault_modLane (h : HeadId) (g : Lane → Lane) :
    (s.modLane h g).takeFault f = (s.takeFault f).modLane h g := by
  have := takeFault_with s f s.heads (s.lanes.set h (g (s.lane h))) s.ctm s.window
  refine this.trans ?_
  obtain ⟨_, _, _, h'⟩ := takeFault_only s f
  rw [h']; rfl

theorem takeFault_modContact (h : HeadId) (g : Contact → Contact) :
    (s.modContact h g).takeFault f = (s.takeFault f).modContact h g := by
  have := takeFault_with s f s.heads s.lanes { s.ctm with heads := s.ctm.heads.set h (g (s.contact h)) } s.window
  refine this.trans ?_
  obtain ⟨_, _, _, h'⟩ := takeFault_only s f
  rw [h']; rfl

/-- Where the log is reachable, it makes no difference to a fault's record what the event has made due. -/
theorem takeFault_due_free (h : s.LogReachable) (u : Due) :
    ({ s with due := u } : State).takeFault f = { s.takeFault f with due := u } := by
  unfold State.LogReachable State.LogOff at h
  unfold State.takeFault
  simp only
  split
  · rfl
  split
  · rfl
  split
  · split
    · unfold State.setOverflow
      simp only [setEvent_eq]
      split <;> rfl
    · rfl
  split
  · have ha : s.allowed (logSlot s.evu.base s.evu.sizeCode s.evu.writeIdx) 32 = true := by
      rcases h with (h | h) | h
      · simp_all
      · simp_all
      · exact h
    have hb : ({ s with due := u } : State).allowed (logSlot s.evu.base s.evu.sizeCode s.evu.writeIdx) 32 = true := ha
    simp only [State.recordFault, ha, hb, if_true, setEvent_eq]
    rfl
  · rfl

end

end Sys2Proof.Machine
end

