-- ==== Sys2Proof/Laws/Lanes.lean ====
section
/-! SUPPORT. What the operations on lanes and heads do: issue, release, rewriting of bands, the taking of a reply, and the submission
of a fault that names a head. -/

namespace Sys2Proof.Machine

/-! ### Issue (R43, R89) -/

/-- An order requested on a FREE lane with its transmit line idle goes out at once. -/
theorem requestOrder_free {s : State} {h : HeadId} (hf : (s.lane h).out = .free) (ht : (s.lane h).txTimer = none) (o : Order) :
    s.requestOrder h o =
      (s.modLane h fun l => l.issue o.kind (s.orderArg1 h o) (s.orderArg2 h o) (s.alc.timeout o.kind)).modHead h
        fun x => { x with state := x.state.onIssue o } := by
  simp [State.requestOrder, hf, ht, State.issueOrder]

/-- An order requested while the lane or its transmit line is busy is held, in place of any held before. -/
theorem requestOrder_busy {s : State} {h : HeadId} (hf : (s.lane h).out ≠ .free ∨ (s.lane h).txTimer ≠ none) (o : Order) :
    s.requestOrder h o = s.modHead h fun x => { x with heldOrder := some o } := by
  unfold State.requestOrder
  split
  · rename_i h1 h2; rcases hf with hf | hf <;> contradiction
  · rfl

/-- A held HOME goes out on a FREE lane with its transmit line idle, and the head is HOMING. -/
theorem issueHeld_home {s : State} {h : HeadId} (hh : (s.head h).heldOrder = some .home) (hf : (s.lane h).out = .free)
    (ht : (s.lane h).txTimer = none) :
    s.issueHeld h = (s.modHead h fun x => { x with heldOrder := none }).issueOrder h .home := by
  simp [State.issueHeld, hh, hf, ht]

/-- A held HOME stays held while the transmit line is busy. -/
theorem issueHeld_waits {s : State} {h : HeadId} {n : Nat} (hh : (s.head h).heldOrder = some .home)
    (ht : (s.lane h).txTimer = some n) : s.issueHeld h = s := by
  unfold State.issueHeld
  split
  · rename_i o h1 h2
    have e : o = .home := by rw [h1] at hh; exact Option.some.inj hh
    simp [e, ht]
  · rfl

/-- With no order held, a free lane sends nothing. -/
theorem issueHeld_none {s : State} {h : HeadId} (hh : (s.head h).heldOrder = none) : s.issueHeld h = s := by
  simp [State.issueHeld, hh]

/-! ### Release and bands (R44, R62, R80) -/

/-- A release of a head that is not LOST. -/
theorem releaseHead_eq {s : State} {h : HeadId} (hl : (s.head h).state ≠ .lost) :
    s.releaseHead h =
      (s.modHead h fun x => { x with assigned := none, serving := none, state := .idle }).callEval h.side := by
  simp [State.releaseHead, State.modHead, hl]

/-- A head whose footprint keeps the laws of R62 takes it. -/
theorem shrinkTo_eq {s : State} {h : HeadId} {x : Int} (hm : s.mayHold h (s.footprint x) = true) :
    s.shrinkTo h x = (s.modHead h fun q => { q with held := some (s.footprint x) }).callEval h.side := by
  simp [State.shrinkTo, State.writeBands, hm]

/-- Whether a head may hold a range depends on the held ranges of the other heads only. -/
theorem mayHold_congr {s t : State} {h : HeadId} {r : Range}
    (hh : ∀ g, g ≠ h → (t.head g).held = (s.head g).held) : t.mayHold h r = s.mayHold h r := by
  unfold State.mayHold
  congr 2
  funext g
  by_cases hg : g = h
  · simp [hg]
  · rw [hh g hg]

/-! ### Evaluations called for (R67) -/

/-- An evaluation called for is noted in what is due, and in nothing else. -/
theorem callEval_only (s : State) (d : Side) : ∃ u, s.callEval d = { s with due := u } := ⟨_, rfl⟩

@[simp] theorem callEval_head (s : State) (d : Side) (h : HeadId) : (s.callEval d).head h = s.head h := rfl
@[simp] theorem callEval_lane (s : State) (d : Side) (h : HeadId) : (s.callEval d).lane h = s.lane h := rfl
@[simp] theorem callEval_finish (s : State) (d : Side) : (s.callEval d).finish = s.finish := rfl

theorem callEval_modHead (s : State) (h : HeadId) (f : Head → Head) (d : Side) :
    (s.callEval d).modHead h f = (s.modHead h f).callEval d := rfl

theorem callEval_twice (s : State) (d : Side) : (s.callEval d).callEval d = s.callEval d := by cases d <;> rfl

/-- One side called for on an event with nothing else due. -/
theorem callEval_due {s : State} (hd : s.due.clear) (d : Side) :
    (s.callEval d).due.faulted = false ∧ (s.callEval d).due.planEnd = false
      ∧ ((s.callEval d).due.evalTop = false ∨ (s.callEval d).due.evalBottom = false) := by
  obtain ⟨h1, h2, h3, h4⟩ := hd
  cases d <;> simp [State.callEval, State.modDue, h1, h2, h3, h4]

/-- An event at rest whose effect is t and the call for one evaluation ends in t. -/
theorem event_resting_eval {s t : State} {f : State → State} (d : Side) (hs : s.Resting) (e : f s.begin = t.callEval d)
    (hw : t.window = s.window) (hp : t.park = s.park) (hr : t.run.state = s.run.state) (hd : t.due.clear) :
    s.event f = t.finish := by
  have hc := callEval_due hd d
  rw [event_resting hs] <;> rw [e]
  · rfl
  · exact hw.trans hs.2.1
  · exact hp.trans hs.2.2.1
  · exact hr.trans hs.2.2.2
  · exact hc.1
  · exact hc.2.1
  · exact hc.2.2

/-- An event at rest whose effect is t and makes nothing due ends in t. -/
theorem event_resting_clear {s t : State} {f : State → State} (hs : s.Resting) (e : f s.begin = t)
    (hw : t.window = s.window) (hp : t.park = s.park) (hr : t.run.state = s.run.state) (hd : t.due.clear) :
    s.event f = t.finish := by
  subst e
  exact event_of_none hs.1 (followUp_resting (hw.trans hs.2.1) (hp.trans hs.2.2.1) (hr.trans hs.2.2.2) hd)

/-! ### Faults that name a head (R99, R179) -/

/-- A fault submitted within an event is stamped with the run state at its start. -/
theorem submitHead_eq {s : State} (kind : FaultKind) (h : HeadId) (cause : Nat) (detail : Word)
    (hr : s.due.runBefore = s.run.state) :
    s.submitHead kind h cause detail = s.takeFault (s.headFault kind h cause detail) := by
  simp [State.submitHead, State.submit, State.stamp, State.headFault, hr]

/-! ### The assignment of a LOST head (R47) -/

/-- A head that is not LOST keeps its assignment. -/
theorem settleLost_kept {s : State} {h : HeadId} (hl : (s.head h).state ≠ .lost) : s.settleLost h = s := by
  simp [State.settleLost, hl]

/-- All that the end of an order or HALT can do to the assignment of its head: it stays, or the head is LOST with no HALT out
and loses it. -/
theorem settleLost_cases (s : State) (h : HeadId) :
    s.settleLost h = s ∨ ((s.head h).state = .lost ∧ (s.lane h).halting = false ∧ s.settleLost h = s.dropAssignment h) := by
  unfold State.settleLost
  split
  · rename_i hc; exact .inr ⟨hc.1, hc.2, rfl⟩
  · exact .inl rfl

@[simp] theorem settleLost_lane (s : State) (h l : HeadId) : (s.settleLost h).lane l = s.lane l := by
  rcases settleLost_cases s h with e | ⟨-, -, e⟩ <;> rw [e]; rfl

@[simp] theorem settleLost_due (s : State) (h : HeadId) : (s.settleLost h).due = s.due := by
  rcases settleLost_cases s h with e | ⟨-, -, e⟩ <;> rw [e]; rfl

/-! ### Marks and HALTs over an order (R90, R98) -/

@[simp] theorem markContact_order {l : Lane} {o : SentOrder} (h : l.out = .order o) :
    l.markContact = { l with out := .order { o with contact := true } } := by simp [Lane.markContact, h]

@[simp] theorem markContact_free {l : Lane} (h : l.out = .free) : l.markContact = l := by simp [Lane.markContact, h]

@[simp] theorem markContact_halt {l : Lane} {t : SentHalt} (h : l.out = .halt t) : l.markContact = l := by
  simp [Lane.markContact, h]

@[simp] theorem markContact_nextTag (l : Lane) : l.markContact.nextTag = l.nextTag := by
  unfold Lane.markContact; split <;> rfl

@[simp] theorem markContact_txTimer (l : Lane) : l.markContact.txTimer = l.txTimer := by
  unfold Lane.markContact; split <;> rfl

@[simp] theorem markContact_pendingHalt (l : Lane) : l.markContact.pendingHalt = l.pendingHalt := by
  unfold Lane.markContact; split <;> rfl

/-- A lane with a GOTO or HOME outstanding can take a HALT over it. -/
theorem haltable_order {l : Lane} {o : SentOrder} (h : l.out = .order o) (hk : o.kind = .goto ∨ o.kind = .home) :
    l.haltable = some o := by simp [Lane.haltable, h, hk]

/-- A HALT requested over a GOTO or HOME waits while the transmit line is in use. -/
theorem requestHalt_busy {s : State} {h : HeadId} {o : SentOrder} {n : Nat} (ho : (s.lane h).haltable = some o)
    (ht : (s.lane h).txTimer = some n) :
    s.requestHalt h = s.modLane h fun l => { l with pendingHalt := true } := by simp [State.requestHalt, ho, ht]

/-- A HALT requested over a GOTO or HOME on an idle transmit line goes out, over a GOTO with the held bands. -/
theorem requestHalt_idle {s : State} {h : HeadId} {o : SentOrder} (ho : (s.lane h).haltable = some o)
    (ht : (s.lane h).txTimer = none) :
    s.requestHalt h =
      (s.modLane h fun l => l.sendHalt o (s.alc.timeout .halt) (if o.kind = .goto then (s.head h).held else none)).modHead h
        fun x => x.onHalt o.kind := by simp [State.requestHalt, State.sendHalt, ho, ht]

/-- With no GOTO or HOME outstanding no HALT goes out. -/
theorem requestHalt_none {s : State} {h : HeadId} (ho : (s.lane h).haltable = none) : s.requestHalt h = s := by
  simp [State.requestHalt, ho]

/-! ### Issue of the whole queue (R157) -/

/-- While no LOADING waits for writes, the issue of one leaves the load alone. -/
theorem writeAheadIssued_none {s : State} (hl : s.run.state = .loading → s.run.load = none) : s.writeAheadIssued = s := by
  unfold State.writeAheadIssued
  split
  · rename_i h; simp [State.modRun, hl h]; rw [← hl h]
  · rfl

/-- The issue of an untracked write while no LOADING waits takes it off the queue and does nothing else. -/
theorem issueWrite_untracked {s : State} {w : HostWrite} {rest : List HostWrite}
    (hl : s.run.state = .loading → s.run.load = none) (hw : w.tracked = false) :
    s.issueWrite w rest = s.modBus fun b => { b with writes := rest } := by
  unfold State.issueWrite
  rw [writeAheadIssued_none (by simpa [State.modBus] using hl)]
  cases ht : w.tag <;> simp_all [HostWrite.tracked]

/-- A queue with no write that a step waits for is issued whole, with no other effect. -/
theorem issueAll_untracked : ∀ (n : Nat) (s : State), s.bus.writes.length = n →
    (s.run.state = .loading → s.run.load = none) →
    (∀ w ∈ s.bus.writes, w.tracked = false) → s.issueAll n = s.modBus fun b => { b with writes := [] }
  | 0, s, hn, _, _ => by
    have := List.length_eq_zero_iff.mp hn
    simp [State.issueAll, State.modBus, ← this]
  | n + 1, s, hn, hl, hw => by
    match e : s.bus.writes with
    | [] => simp [e] at hn
    | w :: rest =>
      rw [e] at hn hw
      have h1 : s.issueAll (n + 1) = (s.issueWrite w rest).issueAll n := by
        rw [State.issueAll]; exact e
      rw [h1, issueWrite_untracked hl (hw w (by simp)),
        issueAll_untracked n _ (by simpa [State.modBus] using hn) (by simpa [State.modBus] using hl)
          (by simpa [State.modBus] using fun v hv => hw v (by simp [hv]))]
      rfl

/-- With no step in the window and no LOADING that waits, the issue of any write takes it off the queue and does nothing
else. -/
theorem issueWrite_noSteps {s : State} {w : HostWrite} {rest : List HostWrite} (hw : s.window = [])
    (hl : s.run.state = .loading → s.run.load = none) : s.issueWrite w rest = s.modBus fun b => { b with writes := rest } := by
  have e : (s.modBus fun b => { b with writes := rest }).window = [] := by simpa [State.modBus] using hw
  unfold State.issueWrite
  rw [writeAheadIssued_none (by simpa [State.modBus] using hl)]
  cases w.tag <;> simp_all [State.markWritten, State.modEntry, modEntries, State.markIssued, State.entry?]
  simp only [← hw]; rfl

theorem issueAll_noSteps (n : Nat) {s : State} (hw : s.window = []) (hl : s.run.state = .loading → s.run.load = none) :
    s.issueAll n = s.modBus fun b => { b with writes := b.writes.drop n } := by
  induction n generalizing s with
  | zero => simp [State.issueAll, State.modBus]
  | succ n ih =>
    cases e : s.bus.writes with
    | nil =>
      have h : s.issueAll (n + 1) = s := by simp [State.issueAll, e]
      rw [h]; simp only [State.modBus, e, List.drop_nil]; rw [← e]
    | cons w rest =>
      have h : s.issueAll (n + 1) = (s.issueWrite w rest).issueAll n := by rw [State.issueAll]; exact e
      rw [h, issueWrite_noSteps hw hl, ih (by simpa [State.modBus] using hw) (by simpa [State.modBus] using hl)]
      simp [State.modBus, e]

/-- The whole queue is issued with no other effect when no step is in the window (R157). -/
theorem issueQueue_noSteps {s : State} (hw : s.window = []) (hl : s.run.state = .loading → s.run.load = none) :
    s.issueQueue = s.modBus fun b => { b with writes := [] } := by
  rw [State.issueQueue, issueAll_noSteps _ hw hl]; simp [State.modBus]

/-! ### The discharge switch of CAP (R121, R125) -/

/-- A settle of CAP holds node A at the fixture plane. -/
theorem discharging_settle (m : Engine) (k len : Nat) (now : Tick) (hl : len ≠ 0) :
    (m.beginAttempt .cap k len now).discharging = true := by simp [Engine.beginAttempt, Engine.discharging, hl]

/-- The charge opens the discharge switch. -/
theorem discharging_charge (m : Engine) (now : Tick) : (m.startReading .cap now).discharging = false := by
  simp [Engine.startReading, Engine.discharging]

/-! ### Taking a reply (R85, R91) -/

/-- The fitting reply to an outstanding order is taken. -/
theorem receive_order {s : State} {l : HeadId} {o : SentOrder} {k : ReplyKind} {a1 a2 : Word} (hr : s.Receives l)
    (ho : (s.lane l).out = .order o) (hk : k.fits o.kind = true) :
    s.receiveReply l k o.tag a1 a2 = (((s.modLane l Lane.taken).orderReply l o k a1 a2).settleLost l).issueHeld l := by
  have h2 : ((s.lane l).resetRaise).isSome = false := by rw [hr.2]; rfl
  unfold State.receiveReply
  rw [if_neg hr.1, if_neg (by simp [h2])]
  have h3 : (s.setReceiver l .hunting).retireLane l = s.modLane l Lane.taken := by
    simp only [State.retireLane, State.setReceiver, State.modLane_modLane]; rfl
  simp only [State.takeReply, h3]
  simp [State.setReceiver, ho, hk]

/-- A fitting reply to an outstanding HALT is taken. -/
theorem receive_halt {s : State} {l : HeadId} {t : SentHalt} {k : ReplyKind} {a1 a2 : Word} (hr : s.Receives l)
    (ho : (s.lane l).out = .halt t) (hk : k.fits .halt = true) :
    s.receiveReply l k t.tag a1 a2 = (((s.modLane l Lane.taken).haltReply l t k a1 a2).settleLost l).issueHeld l := by
  have h2 : ((s.lane l).resetRaise).isSome = false := by rw [hr.2]; rfl
  unfold State.receiveReply
  rw [if_neg hr.1, if_neg (by simp [h2])]
  have h3 : (s.setReceiver l .hunting).retireLane l = s.modLane l Lane.taken := by
    simp only [State.retireLane, State.setReceiver, State.modLane_modLane]; rfl
  simp only [State.takeReply, h3]
  simp [State.setReceiver, ho, hk]

/-- A head that serves no step's point has no running point. -/
theorem runningPoint_none {s : State} {h : HeadId} (ha : (s.head h).assigned = none) : s.runningPoint h = none := by
  simp [State.runningPoint, ha]

/-- A head that serves a point of a granted step has that point running. -/
theorem runningPoint_some {s : State} {h : HeadId} {p : Pos} {n : PointName} {e : Entry}
    (ha : (s.head h).assigned = some p) (hv : (s.head h).serving = some (.point n)) (he : s.entry? p = some e)
    (hg : e.phase = .granted) : s.runningPoint h = some (e, n) := by
  simp [State.runningPoint, ha, hv, he, hg]

/-! ### What the replies do to a head with no step (R44, R45, R57, R80) -/

/-- The arrival of a head with no step. -/
theorem arrive_free {s : State} {l : HeadId} (x y : Int) (ha : (s.head l).assigned = none)
    (hl : (s.head l).state ≠ .lost) (hm : s.mayHold l (s.footprint x) = true) :
    s.arrive l x y =
      (s.modHead l fun q =>
        { q with x := x, y := y, held := some (s.footprint x), assigned := none, state := .idle
                 serving := none }).callEval l.side := by
  have hm' : (s.modHead l fun q => { q with x := x, y := y }).mayHold l
      ((s.modHead l fun q => { q with x := x, y := y }).footprint x) = true := by
    rw [← hm]; exact mayHold_congr (by intro g hg; simp [hg])
  unfold State.arrive
  dsimp only
  rw [shrinkTo_eq hm']
  have e : ((((s.modHead l fun q => { q with x := x, y := y }).modHead l fun q =>
      { q with held := some ((s.modHead l fun q => { q with x := x, y := y }).footprint x) }).callEval l.side).head
        l).assigned = none := by simp [ha]
  rw [runningPoint_none e]
  simp only
  split
  · rename_i h1 _; rw [e] at h1; cases h1
  · rename_i h1 _; rw [e] at h1; cases h1
  · rw [releaseHead_eq (by simpa using hl)]
    simp only [callEval_modHead, callEval_twice, State.modHead_modHead]; rfl

/-- A raise on a free lane: the window stops and the RAISE goes out. -/
theorem raiseHead_free {s : State} {h : HeadId} (hf : (s.lane h).out = .free) (ht : (s.lane h).txTimer = none) :
    s.raiseHead h =
      (((s.modContact h fun c => { c with window := none }).modLane h fun l =>
        l.issue .raise 0 0 s.alc.raiseTimeout).modHead h fun x => { x with state := x.state.onIssue .raise }) :=
  requestOrder_free (s := s.stopWindow h) (h := h) hf ht .raise

end Sys2Proof.Machine
end

