-- ==== Sys2Proof/Laws/Arbiter.lean ====
section
/-! SUPPORT. What the arbiter's operations do: ranges of bands, the dissolution of a yield group, and a reservation
with its GOTO. -/

namespace Sys2Proof.Machine

/-! ### Ranges (R63, R70) -/

theorem mem_bands (r : Range) (b : Nat) : b ∈ r.bands ↔ r.lo ≤ b ∧ b ≤ r.hi := by
  simp only [Range.bands, List.mem_map, List.mem_range]
  constructor
  · rintro ⟨i, hi, rfl⟩; omega
  · rintro ⟨h1, h2⟩; exact ⟨b - r.lo, by omega, by omega⟩

theorem has_iff (r : Range) (b : Nat) : r.has b = true ↔ r.lo ≤ b ∧ b ≤ r.hi := by simp [Range.has]

/-- Two ranges meet exactly when they have a band in common. -/
theorem not_meets (r q : Range) : r.meets q = false ↔ r.apart q := by
  simp only [Range.meets, Range.apart, decide_eq_false_iff_not]
  constructor
  · intro h b hb; omega
  · intro h hm; exact h (max r.lo q.lo) (by omega)

theorem pairwiseApart_iff (rs : List Range) : pairwiseApart rs = true ↔ rs.Pairwise Range.apart := by
  induction rs with
  | nil => simp [pairwiseApart]
  | cons r rs ih => simp [pairwiseApart, ih, not_meets]

/-! ### Yield groups (R67, R77, R79) -/

/-- The dissolution of a group calls for evaluations and does nothing else. -/
theorem groupDissolved_only (s : State) (g : YieldGroup) : ∃ u, s.groupDissolved g = { s with due := u } := by
  unfold State.groupDissolved
  generalize g.sides = ds
  induction ds generalizing s with
  | nil => exact ⟨_, rfl⟩
  | cons d ds ih => exact ih (s.callEval d)

@[simp] theorem groupDissolved_head (s : State) (g : YieldGroup) (h : HeadId) : (s.groupDissolved g).head h = s.head h := by
  obtain ⟨_, e⟩ := groupDissolved_only s g; rw [e]; rfl

@[simp] theorem groupDissolved_lane (s : State) (g : YieldGroup) (h : HeadId) : (s.groupDissolved g).lane h = s.lane h := by
  obtain ⟨_, e⟩ := groupDissolved_only s g; rw [e]; rfl

@[simp] theorem groupDissolved_window (s : State) (g : YieldGroup) : (s.groupDissolved g).window = s.window := by
  obtain ⟨_, e⟩ := groupDissolved_only s g; rw [e]

/-- A yield is ready exactly when every band of its sweep is free or its own. -/
theorem yieldReady_iff (s : State) (y : Yield) :
    s.yieldReady y = true ↔
      ∀ b, y.sweep.lo ≤ b → b ≤ y.sweep.hi → s.holder y.head.side b = none ∨ s.holder y.head.side b = some y.head := by
  simp only [State.yieldReady, List.all_eq_true, mem_bands]
  constructor
  · intro h b h1 h2
    have := h b ⟨h1, h2⟩
    cases e : s.holder y.head.side b <;> simp_all
  · rintro h b ⟨h1, h2⟩
    rcases h b h1 h2 with e | e <;> simp [e]

/-! ### Reservations (R62, R64, R89) -/

/-- A range that keeps the laws of R62 is written, and on a FREE lane the GOTO goes out at once: an IDLE or RAISING head is MOVING. -/
theorem reserveAndGo_free {s : State} {h : HeadId} {r : Range} (x y : Int) (hm : s.mayHold h r = true)
    (hf : (s.lane h).out = .free) (ht : (s.lane h).txTimer = none) (hi : (s.head h).state = .idle ∨ (s.head h).state = .raising) :
    s.reserveAndGo h r x y =
      (s.modLane h fun l => l.issue .goto (wordOfInt x) (wordOfInt y) s.alc.gotoTimeout).modHead h fun q =>
        { q with held := some r, state := .moving } := by
  have hf' : ((s.modHead h fun q => { q with held := some r }).lane h).out = .free := hf
  have ht' : ((s.modHead h fun q => { q with held := some r }).lane h).txTimer = none := ht
  simp only [State.reserveAndGo, hm, if_true, State.writeBands, requestOrder_free hf' ht']
  rcases hi with hi | hi <;>
    simp [State.modLane, State.modHead, State.setHead, State.setLane, State.head, State.lane, State.orderArg1, State.orderArg2,
      LaneConfig.timeout, Order.kind, HeadState.onIssue, show (s.heads.get h).state = _ from hi]

end Sys2Proof.Machine
end

