-- ==== Sys2Proof/Laws/Fields.lean ====
section
/-! SUPPORT. The fields of the little-endian records: a bit of a record with a field stored, and what every field reads after that. -/

namespace Sys2Proof.Machine

/-- A bit of a record after a field of it is stored: of the value inside the field, and as it was outside. -/
theorem putField_bit {n : Nat} (d : BitVec n) (off width v i : Nat) (hi : i < n) :
    (putField d off width v).getLsbD i =
      if 8 * off ≤ i ∧ i < 8 * off + 8 * width then v.testBit (i - 8 * off) else d.getLsbD i := by
  simp only [putField, BitVec.getLsbD_or, BitVec.getLsbD_and, BitVec.getLsbD_not, BitVec.getLsbD_shiftLeft, BitVec.getLsbD_ofNat,
    Nat.testBit_mod_two_pow, Nat.testBit_two_pow_sub_one]
  have h : i - 8 * off < n := by omega
  by_cases h1 : 8 * off ≤ i <;> by_cases h2 : i < 8 * off + 8 * width
  · simp [hi, h, h1, h2, show ¬i < 8 * off by omega, show i - 8 * off < 8 * width by omega]
  · simp [hi, h, h1, h2, show ¬i < 8 * off by omega, show ¬i - 8 * off < 8 * width by omega]
  · simp [hi, h1, show i < 8 * off by omega]
  · simp [hi, h1, show i < 8 * off by omega]

/-- The field just stored reads as the value, cut to its width. -/
theorem fieldNat_putField {n : Nat} (d : BitVec n) (off width v : Nat) (h : 8 * off + 8 * width ≤ n) :
    fieldNat (putField d off width v) off width = v % 2 ^ (8 * width) := by
  refine Nat.eq_of_testBit_eq fun i => ?_
  rw [fieldNat, BitVec.testBit_toNat, BitVec.getLsbD_extractLsb', Nat.testBit_mod_two_pow]
  by_cases hi : i < 8 * width
  · rw [putField_bit _ _ _ _ _ (by omega)]
    simp [hi]
  · simp [hi]

/-- A field that shares no byte with the one stored reads as before. -/
theorem fieldNat_putField_apart {n : Nat} (d : BitVec n) (off width v o w : Nat) (h : 8 * o + 8 * w ≤ n)
    (ha : o + w ≤ off ∨ off + width ≤ o) : fieldNat (putField d off width v) o w = fieldNat d o w := by
  refine Nat.eq_of_testBit_eq fun i => ?_
  simp only [fieldNat, BitVec.testBit_toNat, BitVec.getLsbD_extractLsb']
  by_cases hi : i < 8 * w
  · rw [putField_bit _ _ _ _ _ (by omega), if_neg (by omega)]
  · simp [hi]

end Sys2Proof.Machine
end

