-- ==== Sys2Proof/Tests/Slice0.lean ====
section
/-! SUPPORT. The terms that WellFormed refuses, a witness for the hypotheses of every statement that has some, and a few values
worked by hand from the rules. -/

namespace Sys2Proof.Tests

open Sys2Proof Sys2Proof.Machine

set_option Elab.async false

/-! ### WellFormed -/

theorem test_unknown_command_refuses_named_values :
    (Instr.unknownCommand 1).wellFormed = false ∧ (Instr.unknownCommand 6).wellFormed = false
      ∧ (Instr.unknownCommand 0).wellFormed = true ∧ (Instr.unknownCommand 7).wellFormed = true := by decide

theorem test_other_write_refuses_registers_and_widths :
    (Instr.registerWriteOther 0x014 4 0).wellFormed = false ∧ (Instr.registerWriteOther 0x014 3 0).wellFormed = false
      ∧ (Instr.registerWriteOther 0x014 8 0).wellFormed = true ∧ (Instr.registerWriteOther 0x000 4 0).wellFormed = true := by
  decide

theorem test_damaged_frame_refuses_good_frames :
    (Instr.damagedFrame 0 (laneFrame 0x81 3 4 5)).wellFormed = false
      ∧ (Instr.damagedFrame 0 0).wellFormed = false
      ∧ (Instr.damagedFrame 0 (laneFrame 0x01 3 4 5)).wellFormed = true := by decide +kernel

theorem test_stall_expiry_refuses_index_31 :
    (Instr.stallTimerExpiry 5 31).wellFormed = false ∧ (Instr.stallTimerExpiry 5 30).wellFormed = true := by decide

/-! ### States the witnesses are built on -/

/-- The first record of page 5. -/
def pos0 : Pos := ⟨5, 0⟩

/-- STOPPED, with nothing to follow. -/
def stopped : State := { State.reset with run := { State.reset.run with state := .stopped } }

/-- In a run state, with fetching paused. -/
def inRun (st : RunState) : State := { State.reset with run := { State.reset.run with state := st } }

/-- A record or request written field by field: offset, width, value. -/
def fields {n : Nat} (l : List (Nat × Nat × Nat)) : BitVec n := l.foldl (fun d f => putField d f.1 f.2.1 f.2.2) 0

/-- An entry whose record lies inside the control block at reset. -/
def entry0 (phase : StepPhase) (request : BitVec 768) : Entry :=
  { Entry.fresh pos0 0x400 request with phase := phase }

/-- A STOPPED part whose lane 0 and head 0 stand as given, with no step. -/
def laneAt (out : LaneOut) (x : Head) : State :=
  (stopped.modLane 0 fun l => { l with out := out }).setHead 0 x

/-- An outstanding order with tag 9 and X 12,500. -/
def order9 (k : OrderKind) : SentOrder := { kind := k, tag := 9, arg1 := 12500, arg2 := 300, count := 0, timeout := 5 }

/-- An outstanding HALT with tag 9. -/
def halt9 (k : OrderKind) (r : Option Range) : SentHalt := { tag := 9, count := 0, timeout := 5, replaced := k, accept := r }

/-- A head in a state that holds bands 2 to 4. -/
def headIn (st : HeadState) : Head := { Head.atReset with state := st, held := some ⟨2, 4⟩, x := 12500 }

/-- A head in a state that serves point A of the step. -/
def headOf (st : HeadState) : Head := { headIn st with assigned := some pos0, serving := some (.point .a) }

/-- A RES2 request with one sample, two retries, and limits 1,000 and 2,000,000,000 µΩ. -/
def res2 : BitVec 768 := fields [(0, 1, 1), (6, 1, 2), (8, 2, 1), (0x28, 8, 1000), (0x30, 8, 2000000000)]

/-- A step of a kind and sample count that stands on heads 0 and 1. -/
def landed (kind samples : Nat) : Entry :=
  let p : Point := { Point.fresh with phase := .landed }
  { entry0 .granted (putField (putField res2 0 1 kind) 8 2 samples) with
    a := { p with head := some 0 }, b := { p with head := some 1 } }

/-- That step served by the engine in a phase: RUNNING, head 0 LANDED on its point A and head 1 on its point B. -/
def served (kind samples : Nat) (phase : EnginePhase) (k : Nat) : State :=
  { ((inRun .running).setHead 0 (headOf .landed)).setHead 1 { headOf .landed with serving := some (.point .b), held := some ⟨6, 8⟩ } with
    window := [landed kind samples]
    men := { Engine.atReset with served := some pos0, phase := phase, k := k,
                                 settle := if phase = .settle then some (20, 20) else none } }

/-- A read in flight with an identity of 3. -/
def read3 (p : ReadPurpose) : HostRead := { id := 3, purpose := p, addr := 0x400, generation := 0, ms := 0, data := none }

/-- A part with that read in flight. -/
def reading (st : RunState) (p : ReadPurpose) : State :=
  { inRun st with bus := { (inRun st).bus with reads := [read3 p] } }

/-- A page header: held count and complete flag. -/
def header (filled complete : Nat) : Block :=
  fields [(0, 4, 0x4C505047), (4, 4, 5), (8, 2, filled), (0xA, 2, complete)]

/-- A fault record of BAD_PAGE. -/
def fault0 : FaultRecord :=
  { kind := .badPage, head := none, side := none, seq := 5, idx := some 30, cause := 255, detail := 7, time := 9,
    run := .running }

/-- A part with a log in force whose unread count is as given. -/
def logWith (unread : Word) : State :=
  { stopped with evu := { stopped.evu with inForce := true, base := 0x400, writeIdx := unread } }

/-- The command answers a next state that meets a test. -/
def nextIs (c : Instr) (s : State) (p : State → Bool) : Bool := match exec c s with | .next t => p t | _ => false

/-! ### Witnesses: the queue, the clock and the laws -/

theorem witness_StepRunsFrontCommand : { stopped with pending := [Instr.start] }.pending = .start :: [] := rfl

theorem witness_EmptyQueueTicks :
    stopped.run.resetHeld = false ∧ stopped.dueCommands = []
      ∧ { stopped with run := { stopped.run with guardTimer := some 10000000 } }.dueCommands = [.guardFilterExpiry]
      ∧ { stopped with run := { stopped.run with resetHeld := true } }.run.resetHeld = true := by decide +kernel

theorem witness_ExecKeepsQueue : ∃ t, exec .stop stopped = .next t := ⟨_, rfl⟩

theorem witness_HeldResetIgnores :
    { stopped with run := { stopped.run with resetHeld := true } }.run.resetHeld = true
      ∧ Instr.start ≠ .resetNRelease ∧ (∀ k, Instr.start ≠ .deviceReset k) ∧ (∀ b, Instr.start ≠ .msiEnableChange b)
      ∧ (∀ b, Instr.start ≠ .guardInputChange b) ∧ (∀ h b, Instr.start ≠ .contactSenseChange h b) :=
  ⟨rfl, nofun, nofun, nofun, nofun, nofun⟩

/-- Two heads of the top side hold bands, and the window, the page list, the log and head 0 stand at their bounds. -/
def full : State :=
  { (stopped.setHead 0 { headIn .idle with touches := 16777215, lead := 5000000 }).setHead 1
      { headIn .idle with held := some ⟨5, 63⟩ } with
    window := List.replicate 16 (entry0 .done 0)
    evu := { stopped.evu with writeIdx := 16 }
    pending := [.msiEnableChange true] }

theorem witness_BandLawKept : full.BandLaw ∧ ∃ t, step full = .next t :=
  ⟨⟨by decide +kernel, by decide +kernel⟩, ⟨_, rfl⟩⟩

theorem witness_WindowLawKept : full.WindowLaw ∧ ∃ t, step full = .next t :=
  ⟨⟨by decide +kernel, by decide +kernel⟩, ⟨_, rfl⟩⟩

theorem witness_LogLawKept : full.LogLaw ∧ ∃ t, step full = .next t :=
  ⟨by unfold State.LogLaw; decide +kernel, ⟨_, rfl⟩⟩

theorem witness_HeadLawKept : full.HeadLaw ∧ ∃ t, step full = .next t :=
  ⟨by unfold State.HeadLaw; decide +kernel, ⟨_, rfl⟩⟩

/-! ### Witnesses: the run commands -/

theorem witness_StartLoads :
    State.reset.run.resetHeld = false ∧ State.reset.run.state.atRest = true
      ∧ (State.reset.regs.cbaHi ++ State.reset.regs.cbaLo : Addr).toNat % 64 = 0 := by decide +kernel

/-- A control block that passes every check: window 0x10000 to 0x1FFFF, the cursor page and the log of 16 slots inside it. -/
def block0 : ControlBlock :=
  fields [(0, 4, 0x4C504342), (4, 2, 1), (0x008, 8, 0x10000), (0x010, 8, 0x1FFFF), (0x018, 8, 0x11000), (0x028, 8, 0x12000),
    (0x030, 1, 4), (0x040, 4, 5000), (0x064, 2, 9), (0x066, 2, 9), (0x068, 2, 9), (0x06A, 2, 9), (0x074, 1, 1), (0x075, 1, 7),
    (0x076, 1, 7), (0x0A0, 4, 5000), (0x0C0, 4, 10000), (0x0E0, 4, 15000), (0x120, 4, 5000), (0x140, 4, 10000),
    (0x160, 4, 15000)]

/-- LOADING, with its last read out. -/
def lastRead : State :=
  { reading .loading (.loading 15) with
    run := { stopped.run with state := .loading, load := some { cba := 0, block := 0, remaining := 1, writesAhead := 0 } } }

theorem witness_LoadFailures_misaligned :
    let s := { stopped with regs := { stopped.regs with cbaLo := 63 } }
    s.run.resetHeld = false ∧ s.run.state.atRest = true ∧ (s.regs.cbaHi ++ s.regs.cbaLo : Addr).toNat % 64 ≠ 0 := by
  decide +kernel

theorem witness_LoadFailures_check :
    lastRead.run.resetHeld = false ∧ lastRead.run.state = .loading ∧ lastRead.openRead 3 = some (read3 (.loading 15))
      ∧ lastRead.run.load = some { cba := 0, block := 0, remaining := 1, writesAhead := 0 }
      ∧ loadFailure 0 (ControlBlock.put 0 15 0) = some 3 := by decide +kernel

/-- LOADING with its last read out, of a block whose band width is 0 and whose log's write index is as given. -/
def lastBad (write : Nat) : State :=
  let b := putField (putField block0 0x040 4 0) 0x034 4 write
  { lastRead with run := { lastRead.run with load := some { cba := 0, block := b, remaining := 1, writesAhead := 0 } } }

theorem witness_LoadFailures_record :
    ∀ write, write = 0 ∨ write = 15 ∨ write = 16 →
      let b := ControlBlock.put (putField (putField block0 0x040 4 0) 0x034 4 write) 15 0
      (loadFailure 0 b).isSome = true ∧ (lastBad write).openRead 3 = some (read3 (.loading 15))
        ∧ (loadCheck 0 b 1 && loadCheck 0 b 3 && loadCheck 0 b 4 && loadCheck 0 b 6) = true
        ∧ (lastBad write).evu.overflow = false
        ∧ ((cbLogWrite b - cbLogRead b).toNat < 2 ^ cbLogSize b ↔ write ≠ 16) := by
  rintro write (rfl | rfl | rfl) <;> decide +kernel

theorem witness_CommandsRefused :
    (inRun .running).run.state.atRest = false ∧ stopped.run.state ≠ .running ∧ stopped.run.state.abortable = false
      ∧ stopped.run.state ≠ .guarded
      ∧ { inRun .guarded with run := { (inRun .guarded).run with guardOpen := true } }.run.guardOpen = true
      ∧ (0 : Word).toNat = 0 ∧ 6 < (7 : Word).toNat := by decide +kernel

/-- RUNNING, with head 0 HALTING and head 1 LOST over a waiting step. -/
def stopping : State :=
  { ((inRun .running).setHead 0 (headIn .halting)).setHead 1 { headOf .lost with serving := some .yielding, held := some ⟨6, 8⟩ } with
    window := [entry0 .waiting res2] }

theorem witness_StopDrains :
    stopping.run.state = .running ∧ stopping.Settled ∧ stopping.SomeHeadBusy ∧ (stopping.head 1).state = .lost
      ∧ ∃ e ∈ stopping.window, e.phase = .waiting ∧ (stopping.head 1).assigned = some e.pos :=
  ⟨rfl, ⟨rfl, by decide +kernel⟩, ⟨0, by decide +kernel⟩, rfl, by decide +kernel⟩

/-- A write that no step waits for. -/
def message0 : HostWrite := { id := 0, tag := .message, addr := 0, len := 0, data := 0 }

/-- RUNNING, with a waiting step and a PARK behind it, no head at work, and a message queued. -/
def quiet : State :=
  { inRun .running with
    bus := { (inRun .running).bus with writes := [message0] }
    window := [entry0 .waiting res2, { entry0 .pending (fields [(0, 1, 0x12)]) with pos := ⟨5, 1⟩ }] }

theorem witness_StopDrains_idle :
    quiet.run.state = .running ∧ quiet.Settled ∧ ¬quiet.SomeHeadBusy
      ∧ (∀ e ∈ quiet.window, e.phase = .pending ∨ e.phase = .waiting) ∧ quiet.park = none ∧ quiet.run.planEndHeld = false
      ∧ quiet.BlockReachable ∧ quiet.bus.writes = [message0] ∧ ∀ w ∈ quiet.bus.writes, w.isResult = false :=
  ⟨rfl, ⟨rfl, by decide +kernel⟩, by unfold State.SomeHeadBusy; decide +kernel, by decide +kernel, rfl, rfl,
    by unfold State.BlockReachable; decide +kernel, rfl, by decide +kernel⟩

theorem witness_StopDrains_ends :
    let s := laneAt (.order (order9 .raise)) (headIn .raising)
    let s := { s with run := { s.run with state := .draining } }
    s.run.resetHeld = false ∧ s.run.state = .draining ∧ s.window = [] ∧ s.plr.pages = [] ∧ s.park = none
      ∧ s.run.planEndHeld = false ∧ s.BlockReachable ∧ s.Receives 0 ∧ (s.lane 0).out = .order (order9 .raise)
      ∧ (s.head 0).state = .raising ∧ (s.head 0).assigned = none ∧ (s.head 0).heldOrder = none
      ∧ ∀ h : HeadId, h ≠ 0 → (s.head h).state.busyForDrain = false :=
  ⟨rfl, rfl, rfl, rfl, rfl, rfl, by unfold State.BlockReachable; decide +kernel, ⟨nofun, rfl⟩, rfl, rfl, rfl, rfl,
    by decide +kernel⟩

theorem witness_AbortStopsRun_loading :
    (inRun .loading).run.resetHeld = false ∧ (inRun .loading).run.state = .loading ∧ (inRun .loading).window = []
      ∧ (inRun .loading).plr.pages = [] ∧ ∀ h : HeadId, ((inRun .loading).head h).state.directed = false := by
  decide +kernel

/-- A served step with its two heads LANDED, and heads in each of the other states that RUN directs to rest: head 2 MOVING with a
quiet line, head 3 MOVING with its line in use, head 4 HOMING under an issued HOME, head 5 HOMING behind a held one, head 6
DESCENDING. -/
def atWork (st : RunState) : State :=
  let s := served 1 1 .integrate 3
  let s := { s with run := { s.run with state := st } }
  let s := (((s.setHead 2 { headIn .moving with held := some ⟨9, 11⟩ }).setHead 3
    { headIn .moving with held := some ⟨20, 22⟩ }).setHead 4 { headIn .homing with held := none }).setHead 5
      { headIn .homing with held := none, heldOrder := some .home }
  let s := s.setHead 6 { headOf .descending with held := some ⟨40, 42⟩ }
  (((s.modLane 2 fun l => { l with out := .order (order9 .goto) }).modLane 3 fun l =>
    { l with out := .order (order9 .goto), txTimer := some 5 }).modLane 4 fun l =>
      { l with out := .order (order9 .home) }).modLane 6 fun l => { l with out := .order (order9 .descend) }

theorem witness_AbortStopsRun :
    let s := atWork .running
    s.run.resetHeld = false ∧ s.run.state = .running ∧ s.BlockReachable
      ∧ (∀ p ∈ s.plr.pages, s.allowed (p.addr + 0x0C) 4 = true)
      ∧ (s.head 2).state = .moving ∧ (s.lane 2).out = .order (order9 .goto) ∧ (s.lane 2).txTimer = none
      ∧ (s.head 3).state = .moving ∧ (s.lane 3).out = .order (order9 .goto) ∧ (s.lane 3).txTimer.isSome = true
      ∧ (s.head 4).state = .homing ∧ (s.head 4).heldOrder ≠ some .home ∧ (s.lane 4).out = .order (order9 .home)
      ∧ (s.head 5).state = .homing ∧ (s.head 5).heldOrder = some .home
      ∧ (s.head 0).state = .landed ∧ (s.lane 0).out = .free ∧ (s.lane 0).txTimer = none ∧ (s.head 6).state = .descending
      ∧ (s.head 7).state.directed = false ∧ ∃ e ∈ s.window, e.phase ≠ .done ∧ s.men.served = some e.pos :=
  ⟨rfl, rfl, by unfold State.BlockReachable; decide +kernel, by decide +kernel, rfl, rfl, rfl, rfl, rfl, rfl, rfl, nofun, rfl, rfl,
    rfl, rfl, rfl, rfl, rfl, by decide +kernel⟩

/-- RUNNING with a DONE step whose two result writes are still queued, behind a MARK or alone. -/
def resultQueued (older : List Entry) : State :=
  let items : HostWrite := { id := 1, tag := .resultItems pos0, addr := 0x462, len := 30, data := 0 }
  let status : HostWrite := { id := 2, tag := .resultStatus pos0, addr := 0x460, len := 2, data := 1 }
  { inRun .running with
    bus := { (inRun .running).bus with writes := [message0, items, status] }
    window := older ++ [entry0 .done 0] }

def mark0 : Entry := { entry0 .active (fields [(0, 1, 0x14)]) with pos := ⟨4, 30⟩ }

theorem witness_AbortStopsRun_results :
    let s := resultQueued [mark0]
    s.run.resetHeld = false ∧ s.run.state = .running ∧ s.BlockReachable
      ∧ (∀ p ∈ s.plr.pages, s.allowed (p.addr + 0x0C) 4 = true) ∧ s.WindowLaw
      ∧ (∃ w ∈ s.bus.writes, w.isResult = true ∧ w.tag = .resultStatus (entry0 .done 0).pos) ∧ entry0 .done 0 ∈ s.window :=
  ⟨rfl, rfl, by unfold State.BlockReachable; decide +kernel, by decide +kernel, by unfold State.WindowLaw; decide +kernel,
    by decide +kernel, by decide +kernel⟩

/-- R21, R170: an ABORT issues the queued result. Its step retires in the sweep, or stays written behind a MARK that is
PENDING again. -/
theorem test_abort_issues_results :
    nextIs .abort (resultQueued []) (fun t => t.window.isEmpty && t.bus.writes.isEmpty && t.plr.cursorIdx == 1) = true
      ∧ nextIs .abort (resultQueued [mark0]) (fun t => t.bus.writes.isEmpty
          && t.window.map (fun e => (e.phase, e.written)) == [(.pending, false), (.done, true)]) = true := by
  decide +kernel

/-- GUARDED, closed, with a resume target and the cursor page's header read out. -/
def resumable (t : ResumeTarget) (held : Bool) : State :=
  let s := reading .guarded (.header false)
  { s with run := { s.run with resume := some t, planEndHeld := held }, plr := { s.plr with fetch := .header } }

theorem witness_ResumeTargets :
    (∀ t held, let s := (resumable t held).setHead 0 (headIn .moving)
      s.run.resetHeld = false ∧ s.run.state = .guarded ∧ s.run.guardOpen = false ∧ s.window = [] ∧ s.plr.pages = []
        ∧ s.park = none ∧ s.run.planEndHeld = held ∧ s.plr.fetch = .header ∧ s.headerReadOut = true
        ∧ s.run.resume = some t ∧ s.SomeHeadBusy ∧ s.BlockReachable) := by
  intro t _
  refine ⟨rfl, rfl, rfl, rfl, rfl, rfl, rfl, rfl, rfl, rfl, ⟨0, rfl⟩, ?_⟩
  have h : (0 : Addr).toNat + Config.blockBytes ≤ 2 ^ 64 := by decide
  exact h

theorem witness_ResetTaken : stopped.run.resetHeld = false := rfl

theorem witness_PlainWrites :
    stopped.run.resetHeld = false ∧ stopped.run.state.atRest = true ∧ (inRun .running).run.state.atRest = false
      ∧ (Instr.registerWriteOther 0xFFF 1 7).wellFormed = true := by decide +kernel

theorem witness_EventsCleared : stopped.run.resetHeld = false := rfl

theorem witness_EnablesWritten :
    let s : State := { stopped with
      evu := { stopped.evu with events := 1#8 }, bus := { stopped.bus with msiEnable := true } }
    s.run.resetHeld = false ∧ s.evu.events &&& s.evu.enables = 0#8
      ∧ s.evu.events &&& (1 : Word).setWidth 8 ≠ 0#8 ∧ s.bus.msiEnable = true := by decide +kernel

theorem witness_TopEventIsHighest :
    topEvent 0x88 0xFF = 3 + 1 ∧ topEvent 0 0xFF = 0 ∧ full.window.length ≤ 16 ∧ 7 < 8 := by decide +kernel

/-! ### Witnesses: inputs, filters and landing windows -/

theorem witness_LevelsSampled :
    stopped.run.resetHeld = false ∧ stopped.run.guardCode ≠ 0 ∧ stopped.ctm.code ≠ 0 := by decide +kernel

/-- A part at rest with both filter codes 0, its guard closed for the pin level low, and head 0 SETTLING. -/
def unfiltered : State :=
  let s := laneAt .free (headIn .settling)
  { s with ctm := { s.ctm with code := 0 }, run := { s.run with guardCode := 0, guardOpen := false, polarity := true } }

theorem witness_LevelsSampled_unfiltered :
    unfiltered.run.resetHeld = false ∧ unfiltered.run.guardCode = 0 ∧ unfiltered.ctm.code = 0 ∧ unfiltered.Settled
      ∧ (false == unfiltered.run.polarity) = unfiltered.run.guardOpen
      ∧ (true == unfiltered.run.polarity) ≠ unfiltered.run.guardOpen
      ∧ false = (unfiltered.contact 0).filtered ∧ true ≠ (unfiltered.contact 0).filtered :=
  ⟨rfl, rfl, rfl, ⟨rfl, by decide +kernel⟩, rfl, nofun, rfl, nofun⟩

/-- R103, R106, R172, R173: with filter code 0 a made level lands a SETTLING head at once, and an open guard trips. -/
theorem test_filter_code_zero :
    nextIs (.contactSenseChange 0 true) unfiltered (fun t => (t.head 0).state == .landed && (t.contact 0).filtered) = true
      ∧ nextIs (.guardInputChange true) unfiltered (fun t => t.run.state == .guarded && t.run.guardOpen
          && (t.head 0).state == .raising) = true := by
  decide +kernel

theorem witness_GuardFilterQuiet_closed :
    let s := { State.reset with run := { State.reset.run with guardPin := true } }
    s.Settled ∧ s.run.guardTimer.isSome = true ∧ (s.run.guardPin == s.run.polarity) = false :=
  ⟨⟨rfl, by decide +kernel⟩, by decide +kernel, by decide +kernel⟩

theorem witness_GuardFilterQuiet_open :
    ∀ st, st = RunState.idle ∨ st = .faulted ∨ st = .guarded →
      (inRun st).Settled ∧ (inRun st).run.guardTimer.isSome = true
        ∧ ((inRun st).run.guardPin == (inRun st).run.polarity) = true ∧ (inRun st).run.state = st := by
  rintro st (rfl | rfl | rfl)
  all_goals exact ⟨⟨rfl, by decide +kernel⟩, by decide +kernel, by decide +kernel, rfl⟩

theorem witness_GuardTripGuards :
    (∀ st target, (st = RunState.running ∧ target = ResumeTarget.running) ∨ (st = .draining ∧ target = .draining)
        ∨ (st = .stopped ∧ target = .stopped) ∨ (st = .loading ∧ target = .stoppedNoWriteBack) →
      (atWork st).run.resetHeld = false ∧ (atWork st).run.guardTimer.isSome = true
        ∧ ((atWork st).run.guardPin == (atWork st).run.polarity) = true
        ∧ ((atWork st).run.state, target) ∈ [(RunState.running, ResumeTarget.running), (.draining, .draining),
          (.stopped, .stopped), (.loading, .stoppedNoWriteBack)]
        ∧ (atWork st).LogReachable ∧ (atWork st).BlockReachable
        ∧ (∀ p ∈ (atWork st).plr.pages, (atWork st).allowed (p.addr + 0x0C) 4 = true))
    ∧ (logWith 0).LogReachable ∧ ¬(logWith 0).LogOff := by
  refine ⟨?_, .inr (by decide +kernel), by unfold State.LogOff; decide +kernel⟩
  rintro st target (⟨rfl, rfl⟩ | ⟨rfl, rfl⟩ | ⟨rfl, rfl⟩ | ⟨rfl, rfl⟩)
  all_goals exact ⟨rfl, by decide +kernel, by decide +kernel, by decide +kernel, .inl (.inl rfl), by unfold State.BlockReachable; decide +kernel,
    by decide +kernel⟩

theorem witness_ContactRecognised_quiet :
    let s := stopped.modContact 0 fun c => { c with raw := true, timer := some 5 }
    s.Settled ∧ (s.contact 0).timer.isSome = true ∧ (s.head 0).state ≠ .settling ∧ (s.head 0).state ≠ .moving :=
  ⟨⟨rfl, by decide +kernel⟩, by decide +kernel, by decide +kernel, by decide +kernel⟩

theorem witness_ContactRecognised_lands :
    let s := ((served 1 1 .integrate 3).setHead 2 { headOf .settling with held := some ⟨9, 11⟩ }).modContact 2
      fun c => { c with raw := true, timer := some 5 }
    s.Settled ∧ (s.contact 2).timer.isSome = true ∧ (s.contact 2).raw = true ∧ (s.head 2).state = .settling
      ∧ (s.head 2).assigned = some pos0 ∧ (s.head 2).serving = some (.point .a) ∧ s.men.phase ≠ .free :=
  ⟨⟨rfl, by decide +kernel⟩, by decide +kernel, by decide +kernel, by decide +kernel, by decide +kernel, by decide +kernel,
    by decide +kernel⟩

/-- A granted step whose head 0 is in a state and its point A in a phase. -/
def granted (st : HeadState) (ph : PointPhase) : State :=
  let e := entry0 .granted res2
  { (inRun .running).setHead 0 (headOf st) with
    window := [{ e with a := { e.a with head := some 0, phase := ph }, b := { e.b with phase := .moving } }] }

theorem witness_ContactRecognised_travel_at_rest :
    let s := (laneAt (.order (order9 .goto)) (headIn .moving)).modContact 0 fun c => { c with raw := true, timer := some 5 }
    s.Settled ∧ s.Resting ∧ s.LogReachable ∧ (s.contact 0).timer.isSome = true ∧ (s.contact 0).raw = true
      ∧ (s.head 0).state = .moving ∧ (s.head 0).assigned = none ∧ (s.lane 0).out = .order (order9 .goto)
      ∧ (s.lane 0).txTimer = none :=
  ⟨⟨rfl, by decide +kernel⟩, ⟨rfl, rfl, rfl, rfl⟩, .inl (.inl rfl), rfl, rfl, rfl, rfl, rfl, rfl⟩

theorem witness_ContactRecognised_travel_of_point :
    let s := (((granted .moving .moving).setHead 1
      { headOf .landed with serving := some (.point .b), held := some ⟨6, 8⟩ }).modLane 0 fun l =>
        { l with out := .order (order9 .goto) }).modContact 0 fun c => { c with raw := true, timer := some 5 }
    ∃ e, s.Settled ∧ s.LogReachable ∧ s.window = [e] ∧ e.phase = .granted ∧ (s.contact 0).timer.isSome = true
      ∧ (s.contact 0).raw = true ∧ (s.head 0).state = .moving ∧ (s.head 0).assigned = some e.pos
      ∧ (s.head 0).serving = some (.point .a) ∧ (s.lane 0).out = .order (order9 .goto) ∧ (s.lane 0).txTimer = none
      ∧ (1 : HeadId) ≠ 0 ∧ (s.head 1).assigned = some e.pos ∧ (s.head 1).state ≠ .lost :=
  ⟨_, ⟨rfl, by decide +kernel⟩, .inl (.inl rfl), rfl, rfl, rfl, rfl, rfl, rfl, rfl, rfl, rfl, by decide, rfl, nofun⟩

/-- The served step whose head 0 has an open contact about to be recognised, with two retouches used or none. -/
def losing (used : Nat) : State :=
  let s := served 1 1 .integrate 3
  { s.modContact 0 (fun c => { c with filtered := true, timer := some 5 }) with
    window := [{ landed 1 1 with a := { (landed 1 1).a with used := used } }] }

theorem witness_ContactRecognised_loss :
    ∀ used, used = 0 ∨ used = 2 → ∃ e, (losing used).Settled ∧ (losing used).window = [e] ∧ e.phase = .granted
      ∧ PointName.a ∈ e.points ∧ ((losing used).contact 0).timer.isSome = true ∧ ((losing used).contact 0).raw = false
      ∧ ((losing used).head 0).state = .landed ∧ ((losing used).head 0).assigned = some e.pos
      ∧ ((losing used).head 0).serving = some (.point .a) ∧ ((losing used).lane 0).out = .free
      ∧ ((losing used).lane 0).txTimer = none ∧ (losing used).men.served = some e.pos
      ∧ (if used = 0 then (e.point .a).used < reqRetries e.request else reqRetries e.request ≤ (e.point .a).used) := by
  rintro used (rfl | rfl)
  all_goals
    exact ⟨_, ⟨rfl, by decide +kernel⟩, rfl, rfl, by decide +kernel, rfl, rfl, rfl, rfl, rfl, rfl, rfl, rfl, by decide +kernel⟩

/-- A part whose only step has used a number of retouches at its point A. -/
def usedAtA (s : State) (used : Nat) : State :=
  { s with window := s.window.map fun e => { e with a := { e.a with used := used } } }

theorem witness_BounceRetouches :
    ∀ used, used = 0 ∨ used = 2 →
      let s := usedAtA ((granted .settling .settling).modContact 0 fun c => { c with window := some (50000, 50000) }) used
      ∃ e, s.Settled ∧ (s.contact 0).window.isSome = true ∧ (s.head 0).state = .settling ∧ (s.head 0).assigned = some pos0
        ∧ (s.head 0).serving = some (.point .a) ∧ s.entry? pos0 = some e ∧ s.window = [e] ∧ e.phase = .granted
        ∧ PointName.a ∈ e.points ∧ (s.lane 0).out = .free ∧ (s.lane 0).txTimer = none
        ∧ (if used = 0 then (e.point .a).used < reqRetries e.request else reqRetries e.request ≤ (e.point .a).used) := by
  rintro used (rfl | rfl)
  all_goals
    exact ⟨_, ⟨rfl, by decide +kernel⟩, rfl, rfl, rfl, rfl, rfl, rfl, rfl, by decide +kernel, rfl, rfl, by decide +kernel⟩

/-! ### Witnesses: the engine -/

theorem witness_AttemptGoesOn_settle :
    ((served 1 2 .settle 3).Settled ∧ (served 1 2 .settle 3).servedStep = some (landed 1 2, .res2)
      ∧ (served 1 2 .settle 3).men.settle.isSome = true)
    ∧ ((served 6 2 .settle 3).Settled ∧ (served 6 2 .settle 3).servedStep = some (landed 6 2, .cap)
      ∧ (served 6 2 .settle 3).men.settle.isSome = true) :=
  ⟨⟨⟨rfl, by decide +kernel⟩, by decide +kernel, rfl⟩, ⟨⟨rfl, by decide +kernel⟩, by decide +kernel, rfl⟩⟩

theorem witness_AttemptGoesOn_sample :
    let s := served 1 2 .integrate 3
    s.Settled ∧ s.servedStep = some (landed 1 2, .res2) ∧ s.men.phase = .integrate
      ∧ s.men.samples + 1 < reqSamples (landed 1 2).request :=
  ⟨⟨rfl, by decide +kernel⟩, by decide +kernel, rfl, by decide +kernel⟩

/-- A LANDED step of a kind with one sample, and a FREE engine. -/
def taking (kind : Nat) : State := { served kind 1 .free 0 with men := Engine.atReset }

theorem witness_AttemptGoesOn_take :
    (∀ kind : Fin 8, kind ≠ 0 →
      (taking kind.val).men.phase = .free ∧ (taking kind.val).window = [] ++ landed kind.val 1 :: []
        ∧ (taking kind.val).stepState (landed kind.val 1) = .landed ∧ (landed kind.val 1).kind.isSome = true
        ∧ (landed kind.val 1).a.head = some 0)
    ∧ stopped.Settled ∧ stopped.men.phase = .free := by
  exact ⟨by decide +kernel, ⟨rfl, by decide +kernel⟩, rfl⟩

theorem witness_LastSampleDelivers :
    let s := served 1 1 .integrate 3
    s.Settled ∧ s.men.phase = .integrate ∧ s.servedStep = some (landed 1 1, .res2)
      ∧ s.men.samples + 1 = reqSamples (landed 1 1).request
      ∧ StepKind.res2.evaluate s.men.attempts (s.men.takeSample 150000).integrated (s.men.takeSample 150000).reading s.men.k
          (s.leadsOf (landed 1 1)) = .value 1500000000 false false
      ∧ (s.head 0).assigned = some pos0 ∧ (s.head 0).state = .landed ∧ (∀ q ∈ s.window, s.stepState q ≠ .landed) :=
  ⟨⟨rfl, by decide +kernel⟩, rfl, by decide +kernel, by decide +kernel, by decide +kernel, rfl, rfl, by decide +kernel⟩

theorem witness_LastSampleDelivers_again :
    let s := served 1 1 .integrate 3
    let given (v : Int) := StepKind.res2.evaluate s.men.attempts (s.men.takeSample v).integrated (s.men.takeSample v).reading
      s.men.k (s.leadsOf (landed 1 1))
    s.Settled ∧ s.men.phase = .integrate ∧ s.servedStep = some (landed 1 1, .res2)
      ∧ s.men.samples + 1 = reqSamples (landed 1 1).request ∧ given 99999 = .again 2 ∧ given 2000001 = .again 4 :=
  ⟨⟨rfl, by decide +kernel⟩, rfl, by decide +kernel, by decide +kernel, by decide +kernel, by decide +kernel⟩

theorem witness_LastSampleDelivers_cal :
    let s := served 7 1 .integrate 0
    let v (n : Int) := StepKind.cal.evaluate s.men.attempts (s.men.takeSample n).integrated (s.men.takeSample n).reading s.men.k
      (s.leadsOf (landed 7 1))
    s.Settled ∧ s.men.phase = .integrate ∧ s.servedStep = some (landed 7 1, .cal)
      ∧ s.men.samples + 1 = reqSamples (landed 7 1).request ∧ v 1000000 = .value 10000000 false false
      ∧ v 1000001 = .value 10000010 false false ∧ (landed 7 1).a.head = some 0 ∧ (landed 7 1).b.head = some 1
      ∧ (s.head 0).assigned = some pos0 ∧ (s.head 0).state = .landed ∧ (s.lane 0).out = .free ∧ (s.lane 0).txTimer = none
      ∧ (∀ q ∈ s.window, s.stepState q ≠ .landed) :=
  ⟨⟨rfl, by decide +kernel⟩, rfl, by decide +kernel, by decide +kernel, by decide +kernel, by decide +kernel, rfl, rfl, rfl, rfl,
    rfl, rfl, by decide +kernel⟩

theorem witness_ChargeReranges_delivers :
    let s (k : Nat) := served 6 1 .charge k
    ∀ k, k = 3 ∨ k = 6 →
      (s k).Settled ∧ (s k).servedStep = some (landed 6 1, .cap) ∧ (s k).men.phase = .charge ∧ (s k).men.k = k
        ∧ ((s k).head 0).assigned = some pos0 ∧ ((s k).head 0).state = .landed ∧ ((s k).lane 0).out = .free
        ∧ ((s k).lane 0).txTimer = none ∧ (∀ q ∈ (s k).window, (s k).stepState q ≠ .landed)
        ∧ ((999 : Tick) - (s k).men.chargeStart).toNat = 999 ∧ ((1000 : Tick) - (s k).men.chargeStart).toNat = 1000
        ∧ ((16777215 : Tick) - (s k).men.chargeStart).toNat = 16777215
        ∧ ((16777216 : Tick) - (s k).men.chargeStart).toNat = 16777216 := by
  rintro s k (rfl | rfl)
  all_goals
    exact ⟨⟨rfl, by decide +kernel⟩, by decide +kernel, rfl, rfl, rfl, rfl, rfl, rfl, by decide +kernel, by decide +kernel,
      by decide +kernel, by decide +kernel, by decide +kernel⟩

theorem witness_ChargeReranges :
    ((served 6 1 .charge 4).Settled ∧ (served 6 1 .charge 4).servedStep = some (landed 6 1, .cap)
      ∧ (served 6 1 .charge 4).men.phase = .charge ∧ (served 6 1 .charge 4).men.attempts.length < 3
      ∧ 3 < (served 6 1 .charge 4).men.k)
    ∧ ((served 6 1 .charge 5).Settled ∧ (served 6 1 .charge 5).servedStep = some (landed 6 1, .cap)
      ∧ (served 6 1 .charge 5).men.k < 6 ∧ ((999 : Tick) - (served 6 1 .charge 5).men.chargeStart).toNat < 1000
      ∧ ∀ a ∈ (served 6 1 .charge 5).men.attempts, a.k = 6 → a.outcome ≠ .noCrossing) :=
  ⟨⟨⟨rfl, by decide +kernel⟩, by decide +kernel, rfl, by decide +kernel, by decide +kernel⟩,
    ⟨⟨rfl, by decide +kernel⟩, by decide +kernel, by decide +kernel, by decide +kernel, by decide +kernel⟩⟩

theorem witness_RerangesBounded :
    StepKind.res4.evaluate [] .overRange 0 6 0 = .again 7 ∧ StepKind.cap.evaluate [] .noCrossing 0 4 0 = .again 3
      ∧ StepKind.res2.evaluate [] .compliant 0 7 0 = .value 200000000000000 true false
      ∧ StepKind.res2.evaluate [] .inRange 99999 1 0 = .again 0
      ∧ StepKind.res2.evaluate [⟨0, .overRange, 0, false⟩] .inRange 99999 1 9999900 = .value 0 false false
      ∧ StepKind.res2.evaluate [] .inRange 99999 0 999991 = .value 0 false true
      ∧ StepKind.diode.evaluate [] .inRange (-1) 0 0 = .value 0 false true
      ∧ StepKind.cap.evaluate [] .compliant 0 6 0 = .value 16777215 true false
      ∧ (landed 1 1).a.head = some 0 ∧ (landed 1 1).b.head = some 1 := by
  decide +kernel

/-! ### Witnesses: the lanes and the heads -/

theorem resting (out : LaneOut) (x : Head) : (laneAt out x).Resting := ⟨rfl, rfl, rfl, rfl⟩

theorem receiving (out : LaneOut) (x : Head) : (laneAt out x).Receives 0 := ⟨nofun, rfl⟩

theorem witness_ReachedRests :
    let s := laneAt (.order (order9 .goto)) (headIn .moving)
    s.Resting ∧ s.Receives 0 ∧ (s.lane 0).out = .order (order9 .goto) ∧ (s.head 0).state = .moving
      ∧ (s.head 0).assigned = none ∧ (s.head 0).heldOrder = none
      ∧ ((12500 : Word).toInt - (order9 .goto).arg1.toInt).natAbs ≤ s.alc.tolerance
      ∧ ((300 : Word).toInt - (order9 .goto).arg2.toInt).natAbs ≤ s.alc.tolerance
      ∧ s.mayHold 0 (s.footprint (order9 .goto).arg1.toInt) = true :=
  ⟨resting _ _, receiving _ _, rfl, rfl, rfl, rfl, by decide +kernel, by decide +kernel, by decide +kernel⟩

theorem witness_ReachedRests_lost :
    (let s := laneAt (.order (order9 .goto)) (headIn .moving);
      s.Resting ∧ s.LogReachable ∧ s.Receives 0 ∧ (s.lane 0).out = .order (order9 .goto) ∧ (s.head 0).state = .moving
        ∧ (s.head 0).assigned = none ∧ (s.head 0).heldOrder = none
        ∧ s.alc.tolerance < max ((12501 : Word).toInt - (order9 .goto).arg1.toInt).natAbs
            ((300 : Word).toInt - (order9 .goto).arg2.toInt).natAbs)
    ∧ (let s := ((granted .moving .moving).setHead 1
        { headOf .landed with serving := some (.point .b), held := some ⟨6, 8⟩ }).modLane 0 fun l =>
          { l with out := .order (order9 .goto) };
      ∃ e, s.Settled ∧ s.LogReachable ∧ s.Receives 0 ∧ s.window = [e] ∧ e.phase = .granted ∧ PointName.a ∈ e.points
        ∧ (s.lane 0).out = .order (order9 .goto) ∧ (s.head 0).state = .moving ∧ (s.head 0).assigned = some e.pos
        ∧ (s.head 0).serving = some (.point .a) ∧ (s.head 0).heldOrder = none ∧ (1 : HeadId) ≠ 0
        ∧ (s.head 1).assigned = some e.pos ∧ (s.head 1).state ≠ .lost) :=
  ⟨⟨resting _ _, .inl (.inl rfl), receiving _ _, rfl, rfl, rfl, rfl, by decide +kernel⟩,
    ⟨_, ⟨rfl, by decide +kernel⟩, .inl (.inl rfl), ⟨nofun, rfl⟩, rfl, rfl, by decide +kernel, rfl, rfl, rfl, rfl, rfl, by decide,
      rfl, nofun⟩⟩

theorem witness_ReachedDescends :
    let s := (granted .moving .moving).modLane 0 fun l => { l with out := .order (order9 .goto) }
    ∃ e, s.Settled ∧ s.NoneWaiting ∧ s.Receives 0 ∧ (s.lane 0).out = .order (order9 .goto) ∧ (s.head 0).state = .moving
      ∧ (s.head 0).assigned = some pos0 ∧ (s.head 0).serving = some (.point .a) ∧ (s.head 0).heldOrder = none
      ∧ (s.head 0).wearReached = false ∧ s.entry? pos0 = some e ∧ e.phase = .granted
      ∧ s.mayHold 0 (s.footprint (order9 .goto).arg1.toInt) = true :=
  ⟨_, ⟨rfl, by decide +kernel⟩, by unfold State.NoneWaiting; decide +kernel, ⟨nofun, rfl⟩, rfl, rfl, rfl, rfl, rfl, rfl, rfl, rfl,
    by decide +kernel⟩

theorem witness_DescentReplies_at_rest :
    let s := laneAt (.order (order9 .descend)) { headIn .descending with heldOrder := some .raise }
    s.Resting ∧ s.Receives 0 ∧ (s.head 0).state = .descending ∧ (s.head 0).heldOrder = some .raise
      ∧ (s.head 0).assigned = none ∧ (12500 : Word).toNat ≤ (order9 .descend).arg1.toNat
      ∧ (s.head 0).wearLimit = 0 ∧ (s.head 0).worn = false
      ∧ ((laneAt (.order (order9 .raise)) (headIn .raising)).head 0).state = .raising
      ∧ ((laneAt (.order (order9 .raise)) (headIn .raising)).head 0).heldOrder = none :=
  ⟨resting _ _, receiving _ _, rfl, rfl, rfl, by decide +kernel, rfl, rfl, rfl, rfl⟩

/-- A granted step whose head 0 is DESCENDING onto its point A, served by no engine or with the engine at work elsewhere. -/
def descending (phase : EnginePhase) (made : Bool) : State :=
  let s := ((granted .descending .descending).modLane 0 fun l => { l with out := .order (order9 .descend) }).modContact 0
    fun c => { c with filtered := made }
  { s with men := { s.men with phase := phase } }

theorem witness_DescentReplies_of_point :
    ∀ phase made, (phase, made) = (EnginePhase.free, false) ∨ (phase, made) = (.settle, true) →
      ∃ e, (descending phase made).Settled ∧ (descending phase made).Receives 0
        ∧ ((descending phase made).lane 0).out = .order (order9 .descend)
        ∧ ((descending phase made).head 0).state = .descending ∧ ((descending phase made).head 0).heldOrder = none
        ∧ ((descending phase made).head 0).assigned = some pos0
        ∧ ((descending phase made).head 0).serving = some (.point .a)
        ∧ (descending phase made).entry? pos0 = some e ∧ e.phase = .granted ∧ (12500 : Word).toNat ≤ (order9 .descend).arg1.toNat
        ∧ ((descending phase made).contact 0).filtered = made ∧ (made = true → (descending phase made).men.phase ≠ .free)
        ∧ (e.point .a).used < reqRetries e.request := by
  rintro phase made (h | h) <;> cases h
  · exact ⟨_, ⟨rfl, by decide +kernel⟩, ⟨nofun, rfl⟩, rfl, rfl, rfl, rfl, rfl, rfl, rfl, by decide +kernel, rfl, nofun,
      by decide +kernel⟩
  · exact ⟨_, ⟨rfl, by decide +kernel⟩, ⟨nofun, rfl⟩, rfl, rfl, rfl, rfl, rfl, rfl, rfl, by decide +kernel, rfl, fun _ => nofun,
      by decide +kernel⟩

/-- A head one touch before its wear limit, at rest and on the point of a step that waits for nothing. -/
theorem witness_DescentReplies_worn :
    let near (x : Head) : Head := { x with touches := 4, wearLimit := 5 }
    let s := laneAt (.order (order9 .descend)) (near { headIn .descending with heldOrder := some .raise })
    let t := (descending .free false).modHead 0 near
    s.Resting ∧ s.Receives 0 ∧ s.LogReachable ∧ (s.head 0).wearLimit = 5 ∧ min ((s.head 0).touches + 1) 16777215 = 5
      ∧ (s.head 0).worn = false ∧ t.Settled ∧ t.Receives 0 ∧ t.LogReachable ∧ t.NoneWaiting ∧ (t.head 0).wearLimit = 5
      ∧ min ((t.head 0).touches + 1) 16777215 = 5 ∧ (t.head 0).worn = false ∧ (t.head 0).state = .descending :=
  ⟨resting _ _, receiving _ _, .inl (.inl rfl), rfl, rfl, rfl, ⟨rfl, by decide +kernel⟩, ⟨nofun, rfl⟩, .inl (.inl rfl),
    by unfold State.NoneWaiting; decide +kernel, rfl, rfl, rfl, rfl⟩

/-- A travel of one over the maximum, where `witness_DescentReplies_at_rest` has the maximum itself. -/
theorem witness_DescentReplies_beyond :
    let s := laneAt (.order (order9 .descend)) (headIn .descending)
    s.LogReachable ∧ s.Receives 0 ∧ (s.lane 0).out = .order (order9 .descend) ∧ (s.head 0).state = .descending
      ∧ (s.head 0).heldOrder ≠ some .home ∧ (order9 .descend).arg1.toNat < (12501 : Word).toNat ∧ s.Resting :=
  ⟨.inl (.inl rfl), receiving _ _, rfl, rfl, nofun, by decide +kernel, resting _ _⟩

theorem witness_DescentReplies_spent :
    let s := usedAtA (descending .free false) 2
    ∃ e, s.Settled ∧ s.Receives 0 ∧ (s.lane 0).out = .order (order9 .descend) ∧ (s.head 0).state = .descending
      ∧ (s.head 0).heldOrder = none ∧ (s.head 0).assigned = some pos0 ∧ (s.head 0).serving = some (.point .a)
      ∧ s.entry? pos0 = some e ∧ s.window = [e] ∧ e.phase = .granted ∧ PointName.a ∈ e.points
      ∧ reqRetries e.request ≤ (e.point .a).used :=
  ⟨_, ⟨rfl, by decide +kernel⟩, ⟨nofun, rfl⟩, rfl, rfl, rfl, rfl, rfl, rfl, rfl, rfl, by decide +kernel, by decide +kernel⟩

/-- A step with a retouch of 10 µm due on the raised head 0, in a work area, with the attempts used so far. -/
def retouching (used xmax : Nat) : State :=
  let s := ((granted .raising .retouching).setHead 1
    { headOf .landed with serving := some (.point .b), held := some ⟨6, 8⟩ }).modLane 0 fun l =>
      { l with out := .order (order9 .raise) }
  { s with
    fru := { s.fru with area := ⟨⟨xmax, 300⟩, ⟨0, 0⟩⟩ }
    window := s.window.map fun e =>
      { e with
        request := putField res2 0x0C 2 10
        a := { e.a with used := used, target := some (12500, 300), cause := some .lostContact } } }

theorem witness_DescentReplies_retouch :
    (∀ used xmax, (used, xmax) = (1, 12510) ∨ (used, xmax) = (1, 12509) ∨ (used, xmax) = (2, 12489) →
      ∃ e, (retouching used xmax).Settled ∧ (retouching used xmax).Receives 0 ∧ (retouching used xmax).window = [e]
        ∧ ((retouching used xmax).lane 0).out = .order (order9 .raise) ∧ ((retouching used xmax).head 0).state = .raising
        ∧ ((retouching used xmax).head 0).heldOrder = none ∧ ((retouching used xmax).head 0).assigned = some e.pos
        ∧ ((retouching used xmax).head 0).serving = some (.point .a) ∧ e.phase = .granted ∧ (e.point .a).phase = .retouching
        ∧ (e.point .a).target = some (12500, 300) ∧ (e.point .a).used = used ∧ reqRetries e.request = 2
        ∧ reqDelta e.request = 10 ∧ ((retouching used xmax).fru.area.get .top) = ⟨xmax, 300⟩
        ∧ (∀ k ∈ (retouching used xmax).fru.keepOut.get .top, ¬(k.xmin ≤ k.xmax))
        ∧ (retouching used xmax).sweep ((retouching used xmax).head 0).x 12510 = ⟨2, 2⟩
        ∧ (retouching used xmax).sweep ((retouching used xmax).head 0).x 12490 = ⟨2, 2⟩
        ∧ (retouching used xmax).holder .top 2 = some 0 ∧ (retouching used xmax).mayHold 0 ⟨2, 2⟩ = true
        ∧ ((retouching used xmax).head 1).assigned = some e.pos ∧ ((retouching used xmax).head 1).state ≠ .lost) := by
  rintro used xmax (h | h | h) <;> cases h
  all_goals exact ⟨_, ⟨rfl, by decide +kernel⟩, ⟨nofun, rfl⟩, rfl, rfl, rfl, rfl, rfl, rfl, rfl, rfl, rfl, rfl, by decide +kernel,
    by decide +kernel, rfl, by decide +kernel, by decide +kernel, by decide +kernel, by decide +kernel, by decide +kernel, rfl, nofun⟩

theorem witness_DescentReplies_lifted :
    let e := { entry0 .lifting res2 with verdict := some .pass }
    let s := { (laneAt (.order (order9 .raise)) (headOf .raising)) with window := [e] }
    s.Settled ∧ s.Receives 0 ∧ (s.lane 0).out = .order (order9 .raise) ∧ (s.head 0).state = .raising
      ∧ (s.head 0).heldOrder = none ∧ (s.head 0).assigned = some e.pos ∧ e.phase = .lifting ∧ e.written = false
      ∧ (∀ g : HeadId, g ≠ 0 → (s.head g).assigned ≠ some e.pos) ∧ s.allowed (e.addr + 0x62) 30 = true
      ∧ s.allowed (e.addr + 0x60) 2 = true :=
  ⟨⟨rfl, by decide +kernel⟩, ⟨nofun, rfl⟩, rfl, rfl, rfl, rfl, rfl, rfl, by decide +kernel, by decide +kernel, by decide +kernel⟩

theorem witness_HomedRests :
    let s := laneAt (.order (order9 .home)) { headIn .homing with homeX := 12500, homeY := 300 }
    s.Resting ∧ s.Receives 0 ∧ (s.lane 0).out = .order (order9 .home) ∧ (s.head 0).state = .homing
      ∧ (s.head 0).heldOrder = none ∧ ((12500 : Word).toInt - (s.head 0).homeX).natAbs ≤ s.alc.tolerance
      ∧ ((300 : Word).toInt - (s.head 0).homeY).natAbs ≤ s.alc.tolerance
      ∧ s.mayHold 0 (s.footprint (12500 : Word).toInt) = true :=
  ⟨resting _ _, receiving _ _, rfl, rfl, rfl, by decide +kernel, by decide +kernel, by decide +kernel⟩

/-- RUNNING, with an ACTIVE HOME_SIDE of the top side whose head 0 is HOMING and the other three in a state. -/
def homing (others : HeadState) : State :=
  let x : Head := { headIn .homing with held := none, homeX := 12500, homeY := 300, assigned := some pos0, serving := some .home }
  let s := ((((inRun .running).setHead 0 x).setHead 1 { x with state := others }).setHead 2 { x with state := others }).setHead 3
    { x with state := others }
  { s.modLane 0 (fun l => { l with out := .order (order9 .home) }) with
    window := [entry0 .active (fields [(0, 1, 0x11), (4, 1, 1)])] }

theorem witness_HomedRests_of_step :
    ∀ others, others = HeadState.homing ∨ others = .idle ∨ others = .lost →
      ∃ e, (homing others).Settled ∧ (homing others).NoneWaiting ∧ (homing others).Receives 0
        ∧ (homing others).window = [e] ∧ e.phase ≠ .lifting ∧ e.homes = some .top ∧ e.written = false
        ∧ ((homing others).lane 0).out = .order (order9 .home) ∧ ((homing others).head 0).state = .homing
        ∧ ((homing others).head 0).heldOrder = none ∧ ((homing others).head 1).state = others
        ∧ (homing others).mayHold 0 ((homing others).footprint (12500 : Word).toInt) = true
        ∧ (homing others).allowed (e.addr + 0x62) 30 = true ∧ (homing others).allowed (e.addr + 0x60) 2 = true
        ∧ (others ≠ .homing → ∀ g : HeadId, g.side = .top → g ≠ 0 → ((homing others).head g).state = others) := by
  rintro others (rfl | rfl | rfl)
  all_goals
    exact ⟨_, ⟨rfl, by decide +kernel⟩, by unfold State.NoneWaiting; decide +kernel, ⟨nofun, rfl⟩, rfl, nofun, by decide +kernel,
      rfl, rfl, rfl, rfl, rfl, by decide +kernel, by decide +kernel, by decide +kernel, by decide +kernel⟩

theorem witness_HomedRests_lost :
    (let s := laneAt (.order (order9 .home)) { headIn .homing with held := none, homeX := 12500, homeY := 300 };
      s.Resting ∧ s.Receives 0 ∧ s.LogReachable ∧ (s.lane 0).out = .order (order9 .home) ∧ (s.head 0).state = .homing
        ∧ (s.head 0).heldOrder = none ∧ (s.head 0).held = none
        ∧ ¬((12501 : Word).toInt - (s.head 0).homeX).natAbs ≤ s.alc.tolerance)
    ∧ (let s := (homing .idle).modHead 1 fun x => { x with held := some ⟨2, 2⟩ };
      ∃ e, s.Settled ∧ s.Receives 0 ∧ s.LogReachable ∧ s.window = [e] ∧ e.homes = some .top ∧ e.written = false
        ∧ (s.lane 0).out = .order (order9 .home) ∧ (s.head 0).state = .homing ∧ (s.head 0).heldOrder = none
        ∧ (s.head 0).held = none ∧ s.mayHold 0 (s.footprint (12500 : Word).toInt) = false
        ∧ s.allowed (e.addr + 0x62) 30 = true ∧ s.allowed (e.addr + 0x60) 2 = true
        ∧ ∀ g : HeadId, g.side = .top → g ≠ 0 → (s.head g).state ≠ .homing) :=
  ⟨⟨resting _ _, receiving _ _, .inl (.inl rfl), rfl, rfl, rfl, rfl, by decide +kernel⟩,
    ⟨_, ⟨rfl, by decide +kernel⟩, ⟨nofun, rfl⟩, .inl (.inl rfl), rfl, by decide +kernel, rfl, rfl, rfl, rfl, rfl,
      by decide +kernel, by decide +kernel, by decide +kernel, by decide +kernel⟩⟩

theorem witness_HaltedRests_lost :
    let s := (laneAt (.halt (halt9 .goto (some ⟨2, 3⟩))) (headIn .halting)).setHead 1 { headIn .idle with held := some ⟨3, 4⟩ }
    s.Resting ∧ s.Receives 0 ∧ s.LogReachable ∧ (s.lane 0).out = .halt (halt9 .goto (some ⟨2, 3⟩))
      ∧ (halt9 .goto (some ⟨2, 3⟩)).contact = false ∧ (s.head 0).state = .halting ∧ (s.head 0).heldOrder = none
      ∧ s.band (19999 : Word).toInt = 3 ∧ s.mayHold 0 (s.footprint (19999 : Word).toInt) = false
      ∧ s.band (20000 : Word).toInt = 4 ∧ s.band (9999 : Word).toInt = 1
      ∧ ((laneAt (.halt (halt9 .goto none)) (headIn .lost)).head 0).state = .lost :=
  ⟨⟨rfl, rfl, rfl, rfl⟩, ⟨nofun, rfl⟩, .inl (.inl rfl), rfl, rfl, rfl, rfl, by decide +kernel, by decide +kernel,
    by decide +kernel, by decide +kernel, rfl⟩

theorem witness_HaltedRests :
    let s := laneAt (.halt (halt9 .goto (some ⟨2, 2⟩))) (headIn .halting)
    s.Resting ∧ s.Receives 0 ∧ (s.head 0).state = .halting ∧ s.band (12500 : Word).toInt = 2
      ∧ s.mayHold 0 (s.footprint (12500 : Word).toInt) = true
      ∧ ((laneAt (.halt (halt9 .home none)) (headIn .halting)).lane 0).out = .halt (halt9 .home none) :=
  ⟨resting _ _, receiving _ _, rfl, by decide +kernel, by decide +kernel, rfl⟩

theorem witness_HaltedRests_unranged :
    let s := laneAt (.halt (halt9 .goto none)) (headIn .offline)
    s.Resting ∧ s.Receives 0 ∧ (s.lane 0).out = .halt (halt9 .goto none) ∧ (s.head 0).heldOrder = none
      ∧ (s.head 0).state = .offline ∧ (halt9 .goto none).accept = none :=
  ⟨resting _ _, receiving _ _, rfl, rfl, rfl, rfl⟩

theorem witness_DriveRefusals :
    ∀ k st, (k, st) = (OrderKind.goto, HeadState.moving) ∨ (k, st) = (.descend, .descending) ∨ (k, st) = (.raise, .raising)
        ∨ (k, st) = (.home, .homing) →
      let s := laneAt (.order (order9 k)) (headIn st)
      s.Resting ∧ s.LogReachable ∧ s.Receives 0 ∧ (s.lane 0).out = .order (order9 k) ∧ (s.head 0).answers k = true
        ∧ (s.head 0).heldOrder = none ∧ s.mayHold 0 (s.footprint (s.head 0).x) = true ∧ s.window = [] := by
  rintro k st (h | h | h | h) <;> cases h
  all_goals exact ⟨resting _ _, .inl (.inl rfl), receiving _ _, rfl, by decide +kernel, rfl, by decide +kernel, rfl⟩

theorem witness_DriveRefusals_halt :
    ∀ k st, (k, st) = (OrderKind.goto, HeadState.halting) ∨ (k, st) = (.home, .halting) ∨ (k, st) = (.goto, .lost) →
      let s := laneAt (.halt (halt9 k none)) (headIn st)
      s.Resting ∧ s.LogReachable ∧ s.Receives 0 ∧ (s.lane 0).out = .halt (halt9 k none) ∧ (s.head 0).state = st
        ∧ (s.head 0).heldOrder = none ∧ (halt9 k none).replaced = k := by
  rintro k st (h | h | h) <;> cases h
  all_goals exact ⟨resting _ _, .inl (.inl rfl), receiving _ _, rfl, rfl, rfl, rfl⟩

/-- The situations of `State.OrderFails`: the head of a point, of a step that is under way or LIFTING. -/
theorem witness_OrderFails_point :
    ∀ ph, ph = StepPhase.granted ∨ ph = .lifting →
      let g := ((granted .moving .moving).setHead 1 { headOf .landed with serving := some (.point .b), held := some ⟨6, 8⟩ }).modLane
        0 fun l => { l with out := .order (order9 .goto) }
      let s : State := { g with window := g.window.map fun (e : Entry) => { e with phase := ph } }
      ∃ e, s.Settled ∧ s.LogReachable ∧ s.Receives 0 ∧ (s.lane 0).out = .order (order9 .goto) ∧ (s.head 0).answers .goto = true
        ∧ s.window = [e] ∧ e.phase = ph ∧ PointName.a ∈ e.points ∧ (s.head 0).assigned = some e.pos
        ∧ (s.head 0).serving = some (.point .a) ∧ (s.head 0).heldOrder = none ∧ (1 : HeadId) ≠ 0
        ∧ (s.head 1).assigned = some e.pos ∧ (s.head 1).state ≠ .lost
        ∧ s.mayHold 0 (s.footprint (s.head 0).x) = true := by
  rintro ph (rfl | rfl)
  all_goals
    exact ⟨_, ⟨rfl, by decide +kernel⟩, .inl (.inl rfl), ⟨nofun, rfl⟩, rfl, by decide +kernel, rfl, rfl, by decide +kernel, rfl, rfl,
      rfl, by decide, rfl, nofun, by decide +kernel⟩

/-- The RAISE of a point that is being retouched. -/
theorem witness_OrderFails_retouch :
    let s := retouching 2 12489
    s.Settled ∧ s.LogReachable ∧ s.Receives 0 ∧ (s.lane 0).out = .order (order9 .raise) ∧ (s.head 0).answers .raise = true
      ∧ (s.head 0).heldOrder = none ∧ (s.head 0).serving = some (.point .a)
      ∧ (∀ e ∈ s.window, e.phase = .granted ∧ (s.head 0).assigned = some e.pos ∧ (e.point .a).phase = .retouching) :=
  ⟨⟨rfl, by decide +kernel⟩, .inl (.inl rfl), ⟨nofun, rfl⟩, rfl, by decide +kernel, rfl, rfl, by decide +kernel⟩

/-- A PARK whose head 0 is on its way, with no head left in the pass. -/
def parkMove : State :=
  { ((inRun .running).setHead 0 { headOf .moving with serving := some .park }).modLane 0 fun l =>
      { l with out := .order (order9 .goto) } with
    window := [entry0 .active (fields [(0, 1, 0x12)])]
    park := some { pos := pos0, side := .top, settled := [], skipped := false, rest := [], moved := true, current := some 0 } }

theorem witness_OrderFails_park :
    parkMove.run.resetHeld = false ∧ parkMove.LogReachable ∧ parkMove.Receives 0 ∧ (parkMove.lane 0).out = .order (order9 .goto)
      ∧ (parkMove.head 0).answers .goto = true ∧ (parkMove.head 0).state = .moving ∧ (parkMove.head 0).assigned.isSome = true
      ∧ (parkMove.head 0).serving = some .park ∧ (∃ k, parkMove.park = some k ∧ k.current = some 0)
      ∧ (parkMove.head 0).heldOrder = none ∧ parkMove.mayHold 0 (parkMove.footprint (parkMove.head 0).x) = true :=
  ⟨rfl, .inl (.inl rfl), ⟨nofun, rfl⟩, rfl, by decide +kernel, rfl, rfl, rfl, ⟨_, rfl, rfl⟩, rfl, by decide +kernel⟩

/-- The HOME of a HOME_SIDE, with another head HOMING and as the last of the side. -/
theorem witness_OrderFails_home :
    ∀ others, others = HeadState.homing ∨ others = .idle ∨ others = .lost →
      ∃ e, (homing others).Settled ∧ (homing others).LogReachable ∧ (homing others).Receives 0 ∧ (homing others).window = [e]
        ∧ ((homing others).lane 0).out = .order (order9 .home) ∧ ((homing others).head 0).answers .home = true
        ∧ e.homes = some .top ∧ ((homing others).head 0).state = .homing ∧ ((homing others).head 0).serving = some .home
        ∧ ((homing others).head 0).heldOrder = none ∧ (1 : HeadId) ≠ 0 ∧ ((homing others).head 1).state = others ∧ e.written = false
        ∧ (homing others).allowed (e.addr + 0x62) 30 = true ∧ (homing others).allowed (e.addr + 0x60) 2 = true
        ∧ (others ≠ .homing → ∀ g : HeadId, g ≠ 0 → g.side = .top → ((homing others).head g).state ≠ .homing) := by
  rintro others (rfl | rfl | rfl)
  all_goals
    exact ⟨_, ⟨rfl, by decide +kernel⟩, .inl (.inl rfl), ⟨nofun, rfl⟩, rfl, rfl, by decide +kernel, by decide +kernel, rfl, rfl, rfl,
      by decide, rfl, rfl, by decide +kernel, by decide +kernel, by decide +kernel⟩

theorem witness_RepliesDiscarded :
    stopped.Settled ∧ stopped.LogReachable ∧ stopped.Receives 0 ∧ (stopped.lane 0).out = .free
      ∧ (stopped.lane 0).silent.getLsbD (255 : Byte).toNat = true
      ∧ (((stopped.modLane 0 fun l => { l with silent := 0 }).lane 0).silent.getLsbD (0 : Byte).toNat = false)
      ∧ ReplyKind.touched.fits .goto = false :=
  ⟨⟨rfl, by decide +kernel⟩, .inl (.inl rfl), ⟨nofun, rfl⟩, rfl, by decide +kernel, by decide +kernel, rfl⟩

theorem witness_RepliesDiscarded_busy :
    let s := laneAt (.order (order9 .goto)) (headIn .moving)
    let t := laneAt (.halt (halt9 .goto none)) (headIn .halting)
    s.Settled ∧ t.Settled ∧ s.LogReachable ∧ t.LogReachable ∧ s.Receives 0 ∧ t.Receives 0
      ∧ (s.lane 0).out = .order (order9 .goto) ∧ (t.lane 0).out = .halt (halt9 .goto none)
      ∧ (order9 .goto).tag ≠ (8 : Byte) ∧ (halt9 .goto none).tag ≠ (8 : Byte) ∧ ReplyKind.touched.fits .goto = false
      ∧ ReplyKind.reached ∉ [ReplyKind.halted, .refused, .fault] :=
  ⟨⟨rfl, by decide +kernel⟩, ⟨rfl, by decide +kernel⟩, .inl (.inl rfl), .inl (.inl rfl), receiving _ _, receiving _ _, rfl, rfl,
    by decide +kernel, by decide +kernel, rfl, by decide⟩

theorem witness_ReceiveLine :
    stopped.Settled ∧ stopped.LogReachable ∧ (stopped.lane 0).receiver ≠ .waitIdle ∧ frameByte 0x7E 0 = 0x7E#8
      ∧ frameCrc 0x7E ≠ frameByte 0x7E 11
      ∧ (let f := laneFrame 0x05 3 4 5
        frameByte f 0 = 0x7E#8 ∧ frameCrc f = frameByte f 11 ∧ isReplyCode (frameByte f 1) = false)
      ∧ (((stopped.modLane 0 fun l => { l with receiver := .waitIdle }).lane 0).receiver = .waitIdle)
      ∧ (((stopped.modLane 0 fun l => { l with receiver := .inside (List.replicate 10 0) }).lane 0).receiver =
        .inside (List.replicate 10 0)) :=
  ⟨⟨rfl, by decide +kernel⟩, .inl (.inl rfl), nofun, by decide +kernel, by decide +kernel, by decide +kernel, rfl, rfl⟩

theorem witness_TimeoutLoses :
    let s := laneAt (.order (order9 .raise)) (headIn .raising)
    s.Resting ∧ s.LogReachable ∧ (s.lane 0).out = .order (order9 .raise) ∧ (s.head 0).answers .raise = true
      ∧ (s.head 0).heldOrder ≠ some .home
      ∧ ((laneAt (.halt (halt9 .goto none)) (headIn .halting)).lane 0).out = .halt (halt9 .goto none)
      ∧ (laneAt (.halt (halt9 .goto none)) (headIn .halting)).Resting ∧ (laneAt (.halt (halt9 .goto none)) (headIn .lost)).Resting :=
  ⟨resting _ _, .inl (.inl rfl), rfl, by decide +kernel, nofun, rfl, resting _ _, resting _ _⟩

theorem witness_PendingHaltSent :
    let s := (laneAt (.order (order9 .goto)) (headIn .moving)).modLane 0 fun l => { l with pendingHalt := true }
    s.Resting ∧ (s.lane 0).pendingHalt = true ∧ (s.lane 0).out = .order (order9 .goto) ∧ (s.head 0).state = .moving :=
  ⟨⟨rfl, rfl, rfl, rfl⟩, rfl, rfl, rfl⟩

/-- A head that is to home, its HOME held behind an order or for the transmit line. -/
def homeHeld (out : LaneOut) (timer : Option Nat) : State :=
  (laneAt out { headIn .homing with held := none, heldOrder := some .home }).modLane 0 fun l => { l with txTimer := timer }

theorem witness_TimeoutLoses_home_held :
    ∀ timer, timer = none ∨ timer = some 1399 →
      let s := homeHeld (.order (order9 .goto)) timer
      s.Resting ∧ s.LogReachable ∧ (s.lane 0).out = .order (order9 .goto) ∧ (s.head 0).state = .homing
        ∧ (s.head 0).heldOrder = some .home ∧ (s.lane 0).txTimer = timer := by
  rintro timer (rfl | rfl)
  all_goals exact ⟨⟨rfl, rfl, rfl, rfl⟩, .inl (.inl rfl), rfl, rfl, rfl, rfl⟩

theorem witness_PendingHaltSent_home_held :
    let s := homeHeld .free (some 1399)
    s.Resting ∧ (s.lane 0).pendingHalt = false ∧ (s.lane 0).out = .free ∧ (s.head 0).heldOrder = some .home :=
  ⟨⟨rfl, rfl, rfl, rfl⟩, rfl, rfl, rfl⟩

/-- R84: 14 µs after its RAISE's frame began the lane of a soft reset may send again, and a HOME that waits goes out then. -/
theorem test_held_home_waits_for_the_line :
    (homeHeld .free (some 1399)).heldReady 0 = false
      ∧ (homeHeld .free (some 1399)).tick.dueCommands.contains (.pendingHaltSend 0) = true
      ∧ ((Lane.afterResetRaise.tick).txTimer = some 1201) := by decide +kernel

theorem witness_ResetRaiseEnds :
    let s := stopped.modLane 0 fun l => { l with resetRaise := some 0 }
    s.Settled ∧ s.run.load = none ∧ (s.lane 0).resetRaise.isSome = true :=
  ⟨⟨rfl, by decide +kernel⟩, rfl, rfl⟩

/-! ### Witnesses: reads, writes and timers -/

theorem witness_BlockReadsKept_loading :
    let l : Load := { cba := 0, block := 0, remaining := 2, writesAhead := 0 }
    let s := { lastRead with run := { lastRead.run with load := some l } }
    s.Settled ∧ s.run.state = .loading ∧ s.openRead 3 = some (read3 (.loading 15)) ∧ s.run.load = some l
      ∧ l.writesAhead = 0 ∧ 1 < l.remaining :=
  ⟨⟨rfl, by decide +kernel⟩, rfl, rfl, rfl, rfl, by decide⟩

theorem witness_BlockReadsKept_reload :
    let k : Reload := { pos := pos0, mask := 4, out := [3, 4], got := [] }
    let s := { reading .running (.reload 0x080) with reload := some k }
    s.Settled ∧ s.openRead 3 = some (read3 (.reload 0x080)) ∧ (∀ q ∈ s.bus.reads, q.id = 3 → q = read3 (.reload 0x080))
      ∧ s.reload = some k ∧ 3 ∈ k.out ∧ (k.out.filter fun j => j ≠ 3) ≠ [] :=
  ⟨⟨rfl, by decide +kernel⟩, rfl, by decide +kernel, rfl, by decide, by decide⟩

/-- LOADING with that block but for its last read, which holds zeros and is out. -/
def lastGood : State :=
  { lastRead with
    run := { lastRead.run with load := some { cba := 0, block := block0, remaining := 1, writesAhead := 0 } } }

/-- That LOADING with its last read returned, waiting for lane 0 to send its RAISE. -/
def waitsForLane : State :=
  { inRun .loading with
    run := { stopped.run with state := .loading, load := some { cba := 0, block := block0, remaining := 0, writesAhead := 0 } }
    }.modLane 0 fun l => { l with resetRaise := some 0 }

theorem witness_ResetRaiseEnds_loading :
    let ld : Load := { cba := 0, block := block0, remaining := 0, writesAhead := 0 }
    let s := waitsForLane
    s.run.resetHeld = false ∧ s.run.state = .loading ∧ s.window = [] ∧ s.park = none ∧ s.run.load = some ld
      ∧ (s.lane 0).resetRaise.isSome = true ∧ (∀ g : HeadId, g ≠ 0 → (s.lane g).resetRaise = none)
      ∧ loadFailure ld.cba ld.block = none ∧ s.LoadsQuietly ld.block ∧ s.Settled
      ∧ ((s.modLane 1 fun l => { l with resetRaise := some 5 }).lane 1).resetRaise.isSome = true
      ∧ ({ s with run := { s.run with load := some { ld with remaining := 1 } } } : State).Settled :=
  ⟨rfl, rfl, rfl, rfl, rfl, rfl, by decide +kernel, by decide +kernel, by unfold State.LoadsQuietly; decide +kernel,
    ⟨rfl, by decide +kernel⟩, rfl, ⟨rfl, by decide +kernel⟩⟩

/-- R101, R167: the last lane's RAISE completes the LOADING that waited for it. -/
theorem test_reset_raise_completes_loading :
    nextIs (.softResetRaiseSent 0) waitsForLane (fun t => t.run.state == .running && t.run.load.isNone
      && t.plr.cursorAddr == 0x11000 && t.headerReadOut) = true := by decide +kernel

theorem witness_BlockReadsKept_completed :
    let b := ControlBlock.put block0 15 0
    lastGood.run.resetHeld = false ∧ lastGood.run.state = .loading ∧ lastGood.window = [] ∧ lastGood.park = none
      ∧ lastGood.openRead 3 = some (read3 (.loading 15)) ∧ (∀ l : HeadId, (lastGood.lane l).resetRaise = none)
      ∧ loadFailure 0 b = none ∧ lastGood.LoadsQuietly b := by
  unfold State.LoadsQuietly; decide +kernel

/-- A RELOAD whose last read is out. -/
def reloading (mask : Nat) : State :=
  { reading .running (.reload 0x040) with
    reload := some { pos := pos0, mask := mask, out := [3], got := [] }
    window := [entry0 .active (fields [(0, 1, 0x13), (4, 1, mask)])] }

theorem witness_BlockReadsKept_reloaded :
    ∀ mask, mask = 2 ∨ mask = 8 →
      ∃ e k, (reloading mask).Settled ∧ (reloading mask).openRead 3 = some (read3 (.reload 0x040))
        ∧ (∀ q ∈ (reloading mask).bus.reads, q.id = 3 → q = read3 (.reload 0x040)) ∧ (reloading mask).reload = some k
        ∧ 3 ∈ k.out ∧ (k.out.filter fun j => j ≠ 3) = [] ∧ (reloading mask).window = [e] ∧ e.pos = k.pos ∧ e.phase = .active
        ∧ e.written = false ∧ (reloading mask).allowed (e.addr + 0x62) 30 = true
        ∧ (reloading mask).allowed (e.addr + 0x60) 2 = true
        ∧ reloadValid k.mask (reloadedBlock (k.got ++ [(0x040, 0)])) = decide (mask = 8) := by
  rintro mask (rfl | rfl)
  all_goals
    exact ⟨_, _, ⟨rfl, by decide +kernel⟩, rfl, by decide +kernel, rfl, by decide, by decide, rfl, rfl, rfl, rfl, by decide +kernel,
      by decide +kernel, by decide +kernel⟩

/-- A part whose cursor stands at an index and whose header read is in flight. -/
def readsHeader (st : RunState) (idx : Nat) : State :=
  let s := reading st (.header false)
  { s with plr := { s.plr with fetch := .header, cursorIdx := idx } }

theorem witness_HeaderTaken :
    (readsHeader .running 31).Settled ∧ (readsHeader .guarded 30).Settled
      ∧ (∀ st i, (readsHeader st i).openRead 3 = some (read3 (.header false)) ∧ (readsHeader st i).plr.pages = []
        ∧ (read3 (.header false)).generation = (readsHeader st i).plr.generation)
      ∧ headerSignature (header 40 0) = 0x4C505047 ∧ headerRetired (header 40 0) = 0 ∧ headerComplete (header 40 0) = false
      ∧ min (headerFilled (header 40 0)) 31 ≤ (readsHeader .running 31).plr.cursorIdx
      ∧ (readsHeader .guarded 30).plr.cursorIdx < min (headerFilled (header 40 0)) 31 :=
  ⟨⟨rfl, by decide +kernel⟩, ⟨rfl, by decide +kernel⟩, fun _ _ => ⟨rfl, rfl, rfl⟩, by decide +kernel, by decide +kernel,
    by decide +kernel, by decide +kernel, by decide +kernel⟩

/-- A part with a memory window from 0x10000 to 0x1FFFF. -/
def windowed (s : State) : State := { s with bus := { s.bus with window := some (0x10000, 0x1FFFF) } }

/-- A page of records taken and held so far. -/
def page0 (held taken : Nat) (complete : Bool) (next : Addr) : Page :=
  { addr := 0x400, seq := 5, heldCount := held, complete := complete, next := next, taken := taken, retired := 0 }

theorem witness_HeaderTaken_complete :
    let s := windowed (readsHeader .guarded 30)
    let d := header 40 1 ||| fields [(0x10, 8, 0x11000)]
    s.Settled ∧ s.openRead 3 = some (read3 (.header false)) ∧ s.plr.pages = [] ∧ headerSignature d = 0x4C505047
      ∧ headerRetired d = 0 ∧ s.plr.cursorIdx < min (headerFilled d) 31 ∧ headerComplete d = true ∧ headerNext d = 0x11000
      ∧ (headerNext d).toNat % 4096 = 0 ∧ inWindow s.bus.window (headerNext d) 4096 = true :=
  ⟨⟨rfl, by decide +kernel⟩, rfl, rfl, by decide +kernel, by decide +kernel, by decide +kernel, by decide +kernel,
    by decide +kernel, by decide +kernel, by decide +kernel⟩

theorem witness_HeaderTaken_starved :
    let s := reading .running (.header true)
    let s := { s with plr := { s.plr with fetch := .header, pages := [page0 3 3 false 0] } }
    s.Settled ∧ s.openRead 3 = some (read3 (.header true)) ∧ (read3 (.header true)).generation = s.plr.generation
      ∧ s.plr.pages = [page0 3 3 false 0] ∧ headerSignature (header 3 0) = 0x4C505047 ∧ headerRetired (header 3 0) = 0
      ∧ headerSequence (header 3 0) = 5 ∧ headerComplete (header 3 0) = false ∧ min (headerFilled (header 3 0)) 31 ≤ 3
      ∧ s.window = [] ∧ s.plr.starvedArm = true :=
  ⟨⟨rfl, by decide +kernel⟩, rfl, rfl, rfl, by decide +kernel, by decide +kernel, by decide +kernel, by decide +kernel,
    by decide +kernel, rfl, rfl⟩

theorem witness_HeaderTaken_bad :
    let s := readsHeader .running 31
    let d (n : Nat) : Block := header 3 1 ||| fields [(0x10, 8, n)]
    s.run.resetHeld = false ∧ s.openRead 3 = some (read3 (.header false)) ∧ s.BlockReachable
      ∧ headerSignature (0 : Block) ≠ 0x4C505047 ∧ headerRetired (header 3 0 ||| fields [(0x0C, 4, 1)]) = 1
      ∧ { s with plr := { s.plr with pages := [{ page0 3 3 false 0 with seq := 6 }] } }.fetchPage =
          some { page0 3 3 false 0 with seq := 6 }
      ∧ headerSequence (header 3 0) ≠ 6 ∧ headerComplete (d 0x11001) = true ∧ (headerNext (d 0x11001)).toNat % 4096 ≠ 0
      ∧ (headerNext (d 0x11000)).toNat % 4096 = 0 ∧ inWindow s.bus.window (headerNext (d 0x11000)) 4096 = false :=
  ⟨rfl, rfl, by unfold State.BlockReachable; decide +kernel, by decide +kernel, by decide +kernel, by decide +kernel,
    by decide +kernel, by decide +kernel, by decide +kernel, by decide +kernel, by decide +kernel⟩

/-- RUNNING at a fetch state, with pages and a chain point. -/
def fetching (f : FetchState) (ps : List Page) (next : Addr) : State :=
  let s := windowed (inRun .running)
  { s with plr := { s.plr with fetch := f, pages := ps, chain := some (next, 6) } }

theorem witness_HeaderTaken_fetch :
    let s := fetching .take [page0 3 2 true 0] 0
    let c (n : Nat) (next : Addr) := fetching .chain (List.replicate n (page0 3 3 true next)) next
    s.fetchPage = some (page0 3 2 true 0) ∧ s.window.length + s.recordReads.length < 16
      ∧ s.allowed ((page0 3 2 true 0).addr + BitVec.ofNat 64 (128 * 3)) 128 = true
      ∧ 16 ≤ { s with window := full.window }.window.length + { s with window := full.window }.recordReads.length
      ∧ (c 8 0x11000).plr.pages.length = 8 ∧ (c 7 0x11000).plr.pages.length < 8
      ∧ (c 7 0x11000).fetchPage = some (page0 3 3 true 0x11000) ∧ (c 7 0x11000).plr.chain = some (0x11000, 6)
      ∧ inWindow (c 7 0x11000).bus.window 0x11000 4096 = true ∧ (0x11001 : Addr).toNat % 4096 ≠ 0
      ∧ (0x20000 : Addr).toNat % 4096 = 0 ∧ inWindow (c 7 0x20000).bus.window 0x20000 4096 = false := by
  decide +kernel

/-- A record read out behind an ACTIVE RELOAD. -/
def behindReload (st : RunState) : State :=
  { (reading st (.record pos0)).setHead 0 (headIn .halting) with
    window := [{ entry0 .active (fields [(0, 1, 0x13)]) with pos := ⟨4, 30⟩ }] }

theorem witness_RecordEntered_running :
    let r := read3 (.record pos0)
    (∀ st, st = RunState.running ∨ st = .draining → (behindReload st).Settled ∧ (behindReload st).run.state = st
      ∧ (behindReload st).openRead 3 = some r ∧ r.generation = (behindReload st).plr.generation
      ∧ (behindReload st).recordReads = [r] ∧ (∀ q ∈ (behindReload st).bus.reads, q.id = 3 → q = r)
      ∧ (∀ q ∈ (behindReload st).window, q.pos ≠ pos0 ∧ q.phase ≠ .done ∧ reqKind q.request = some .reload))
    ∧ (let s := { behindReload .running with window := [], plr := { stopped.plr with pages := [page0 3 1 false 0] } };
      s.Settled ∧ s.plr.fetch ≠ .take ∧ s.plr.pages = [page0 3 1 false 0] ∧ s.openRead 3 = some r ∧ s.recordReads = [r]) := by
  refine ⟨?_, ⟨rfl, by decide +kernel⟩, nofun, rfl, rfl, rfl⟩
  rintro st (rfl | rfl)
  all_goals exact ⟨⟨rfl, by decide +kernel⟩, rfl, rfl, rfl, rfl, by decide +kernel, by decide +kernel⟩

theorem witness_RecordEntered :
    let s := reading .guarded (.record pos0)
    let r := read3 (.record pos0)
    s.Settled ∧ s.run.state = .guarded ∧ s.openRead 3 = some r ∧ r.generation = s.plr.generation ∧ s.recordReads = [r]
      ∧ (∀ q ∈ s.bus.reads, q.id = 3 → q = r) ∧ recordStatus (fields [(0, 1, 0x14)]) = 0 :=
  ⟨⟨rfl, by decide +kernel⟩, rfl, rfl, rfl, rfl, by decide +kernel, by decide +kernel⟩

theorem witness_RecordEntered_done :
    let r := read3 (.record pos0)
    let s := reading .guarded (.record pos0)
    let u := { s with window := [{ entry0 .pending res2 with pos := ⟨4, 30⟩ }] }
    let v := { s with plr := { s.plr with pages := [page0 3 1 false 0] } }
    recordStatus (fields [(0x60, 2, 7)]) ≠ 0 ∧ u.Settled ∧ u.window ≠ [] ∧ u.recordReads = [r] ∧ v.Settled ∧ v.window = []
      ∧ v.plr.pages = [page0 3 1 false 0] ∧ v.recordReads = [r] ∧ v.openRead 3 = some r ∧ u.openRead 3 = some r :=
  ⟨by decide +kernel, ⟨rfl, by decide +kernel⟩, nofun, rfl, ⟨rfl, by decide +kernel⟩, rfl, rfl, rfl, rfl, rfl⟩

/-- A part with a full ring, one fault pending and the re-read of the index in flight. -/
def rereading : State :=
  let s := reading .stopped .logIndex
  { s with evu := { s.evu with
      inForce := true, base := 0x400, writeIdx := 16, reread := some 3, pendingFaults := [fault0] } }

theorem witness_LogRereadEnds :
    rereading.Settled ∧ rereading.openRead 3 = some (read3 .logIndex)
      ∧ (∀ q ∈ rereading.bus.reads, q.id = 3 → q = read3 .logIndex) ∧ rereading.evu.reread = some 3
      ∧ rereading.evu.pendingFaults = [fault0] ∧ rereading.evu.overflow = false
      ∧ (rereading.evu.writeIdx - 1).toNat < 2 ^ rereading.evu.sizeCode
      ∧ rereading.allowed (logSlot rereading.evu.base rereading.evu.sizeCode rereading.evu.writeIdx) 32 = true
      ∧ 2 ^ rereading.evu.sizeCode ≤ (rereading.evu.writeIdx - 0).toNat :=
  ⟨⟨rfl, by decide +kernel⟩, rfl, by decide +kernel, rfl, rfl, rfl, by decide +kernel, by decide +kernel, by decide +kernel⟩

theorem witness_AccessErrorsFault :
    let s := reading .running (.record pos0)
    s.run.resetHeld = false ∧ s.run.state ≠ .faulted ∧ s.openRead 3 = some (read3 (.record pos0))
      ∧ s.readIssued (read3 (.record pos0)) = true := by decide +kernel

theorem witness_AccessErrorsFault_record :
    let s := reading .running (.record pos0)
    (read3 (.record pos0)).purpose.isLoading = false ∧ (read3 (.record pos0)).purpose ≠ .logIndex ∧ s.run.endsLoad = false
      ∧ (reading .running .logIndex).openRead 3 = some (read3 .logIndex)
      ∧ { (reading .running .logIndex).evu with reread := some 3 }.reread = some (read3 .logIndex).id
      ∧ s.BlockReachable ∧ { s with plr := { s.plr with planLoaded := true } }.plr.planLoaded = true
      ∧ (reading .loading .logIndex).run.state = .loading
      ∧ stopped.allowed 0x7F0 16 = true ∧ stopped.allowed 0x7F1 16 = false ∧ (windowed stopped).allowed 0x1FFF0 16 = true
      ∧ { stopped with due := { Due.none with faulted := true } }.due.faulted = true :=
  ⟨rfl, nofun, rfl, rfl, rfl, by unfold State.BlockReachable; decide +kernel, rfl, rfl, by decide +kernel, by decide +kernel,
    by decide +kernel, rfl⟩

theorem witness_PollReadsHeader :
    let p : Page := { addr := 0x400, seq := 5, heldCount := 3, complete := false, next := 0, taken := 3, retired := 3 }
    let s := { inRun .running with
      plr := { PlanReader.atReset with pages := [p], fetch := .poll, pollTimer := some (1000, 1000) } }
    s.Settled ∧ s.plr.pollTimer.isSome = true ∧ s.fetchPage = some p ∧ s.allowed p.addr 128 = true :=
  ⟨⟨rfl, by decide +kernel⟩, rfl, rfl, by decide +kernel⟩

theorem witness_PollReadsHeader_refused :
    let p := { page0 3 3 false 0 with addr := 0x9000 }
    let s := { inRun .running with plr := { PlanReader.atReset with pages := [p], fetch := .poll, pollTimer := some (9, 9) } }
    s.Settled ∧ s.run.state = .running ∧ s.plr.pollTimer.isSome = true ∧ s.fetchPage = some p ∧ s.allowed p.addr 128 = false
      ∧ s.BlockReachable :=
  ⟨⟨rfl, by decide +kernel⟩, rfl, rfl, rfl, by decide +kernel, by unfold State.BlockReachable; decide +kernel⟩

theorem witness_StallBlocks :
    let e := { entry0 .waiting res2 with stall := some ⟨600000, 600000, false⟩ }
    let s := { inRun .running with window := [e], evu := (logWith 3).evu }
    s.Settled ∧ s.LogReachable ∧ ¬s.LogOff ∧ s.window = [e] ∧ e.phase = .waiting ∧ e.written = false
      ∧ e.stall = some ⟨600000, 600000, false⟩
      ∧ s.allowed (e.addr + 0x62) 30 = true ∧ s.allowed (e.addr + 0x60) 2 = true :=
  ⟨⟨rfl, by decide +kernel⟩, .inr (by decide +kernel), by unfold State.LogOff; decide +kernel, rfl, rfl, rfl, rfl, by decide +kernel,
    by decide +kernel⟩

theorem witness_TrackedWritesIssued_status :
    let w : HostWrite := { id := 1, tag := .resultStatus pos0, addr := 0x460, len := 2, data := 1 }
    let s := { stopped with bus := { stopped.bus with writes := [message0, w] }, window := [entry0 .done 0] }
    s.Settled ∧ s.run.load = none ∧ s.bus.writes = [message0] ++ w :: [] ∧ (∀ b ∈ [message0], b.tracked = false)
      ∧ s.run.state = .stopped ∧ w.tag = .resultStatus pos0 :=
  ⟨⟨rfl, by decide +kernel⟩, rfl, rfl, by decide +kernel, rfl, rfl⟩

/-- A part whose youngest entry is DONE with its status write queued, behind other entries or none. -/
def issuing (st : RunState) (older : List Entry) : State :=
  let w : HostWrite := { id := 1, tag := .resultStatus pos0, addr := 0x460, len := 2, data := 1 }
  { (inRun st).setHead 0 (headIn .halting) with
    bus := { (inRun st).bus with writes := [message0, w] }
    window := older ++ [entry0 .done 0]
    plr := { (inRun st).plr with pages := [page0 3 3 false 0] } }

theorem witness_TrackedWritesIssued_retires :
    ∀ st, st = RunState.running ∨ st = .draining ∨ st = .guarded →
      (issuing st []).Settled ∧ (issuing st []).run.load = none ∧ (issuing st []).plr.fetch ≠ .take
        ∧ (issuing st []).SomeHeadBusy ∧ (issuing st []).window = [entry0 .done 0] ∧ (issuing st []).park = none
        ∧ (issuing st []).plr.pages = [page0 3 3 false 0] ∧ (page0 3 3 false 0).complete = false := by
  rintro st (rfl | rfl | rfl)
  all_goals exact ⟨⟨rfl, by decide +kernel⟩, rfl, nofun, ⟨0, rfl⟩, rfl, rfl, rfl, rfl⟩

theorem witness_TrackedWritesIssued_waits :
    let d := { entry0 .lifting res2 with pos := ⟨4, 30⟩ }
    let s := (issuing .running [d]).setHead 1 { headOf .raising with assigned := some d.pos }
    s.Settled ∧ s.window = [d, entry0 .done 0] ∧ d.pos ≠ (entry0 .done 0).pos :=
  ⟨⟨rfl, by decide +kernel⟩, rfl, by decide⟩

theorem witness_TrackedWritesIssued_mark :
    let w : HostWrite := { id := 1, tag := .markValue pos0, addr := 0x700, len := 4, data := 1 }
    let e := { entry0 .active (fields [(0, 1, 0x14), (4, 1, 1)]) with markWrite := some 1 }
    let s := { inRun .running with bus := { stopped.bus with writes := [message0, w] }, window := [e] }
    s.Settled ∧ s.run.load = none ∧ s.bus.writes = [message0] ++ w :: [] ∧ s.run.state = .running ∧ e.phase = .active
      ∧ e.written = false ∧ e.markWrite = some w.id ∧ w.tag = .markValue e.pos ∧ s.allowed (e.addr + 0x62) 30 = true
      ∧ s.allowed (e.addr + 0x60) 2 = true ∧ markInterrupt e.request = true :=
  ⟨⟨rfl, by decide +kernel⟩, rfl, rfl, rfl, rfl, rfl, rfl, rfl, by decide +kernel, by decide +kernel, by decide +kernel⟩

theorem witness_PageHandedBack :
    let p : Page := { addr := 0x400, seq := 5, heldCount := 31, complete := true, next := 0x600, taken := 31, retired := 31 }
    let q : Page := { addr := 0x600, seq := 6, heldCount := 0, complete := false, next := 0, taken := 0, retired := 0 }
    let s := { stopped with plr := { stopped.plr with pages := [p, q], planLoaded := true } }
    s.HeadLaw ∧ s.plr.pages = p :: q :: [] ∧ p.complete = true ∧ p.retired = p.heldCount ∧ p.next ≠ 0 ∧ q.retired = 0
      ∧ s.plr.planLoaded = true ∧ s.BlockReachable ∧ s.allowed (p.addr + 0x0C) 4 = true :=
  ⟨by unfold State.HeadLaw; decide +kernel, rfl, rfl, rfl, by decide +kernel, rfl, rfl,
    by unfold State.BlockReachable; decide +kernel, by decide +kernel⟩

theorem witness_PageHandedBack_final :
    let p : Page := { addr := 0x400, seq := 5, heldCount := 31, complete := true, next := 0, taken := 31, retired := 31 }
    let s := { inRun .guarded with
      plr := { stopped.plr with pages := [p], planLoaded := true }, bus := { stopped.bus with writes := [message0] }
      due := { Due.none with planEnd := true } }
    s.plr.pages = [p] ∧ p.complete = true ∧ p.retired = p.heldCount ∧ p.next = 0 ∧ s.plr.planLoaded = true
      ∧ s.BlockReachable ∧ s.allowed (p.addr + 0x0C) 4 = true ∧ s.run.load = none
      ∧ (∀ w ∈ s.bus.writes, w.tracked = false) ∧ s.due.planEnd = true ∧ s.run.state = .guarded :=
  ⟨rfl, rfl, rfl, rfl, rfl, by unfold State.BlockReachable; decide +kernel, by decide +kernel, rfl, by decide +kernel, rfl, rfl⟩

/-- The last step of a plan, DONE with its status write queued. -/
def lastStep (st : RunState) : State :=
  let s := issuing st []
  { s with plr := { s.plr with pages := [{ page0 3 3 true 0 with retired := 2 }], planLoaded := true } }

theorem witness_PageHandedBack_planEnd :
    ∀ st, st = RunState.running ∨ st = .draining →
      let s := lastStep st
      let p : Page := { page0 3 3 true 0 with retired := 2 }
      s.run.resetHeld = false ∧ s.run.state = st ∧ s.window = [entry0 .done 0] ∧ s.park = none ∧ s.plr.pages = [p]
        ∧ p.complete = true ∧ p.retired + 1 = p.heldCount ∧ p.next = 0 ∧ s.plr.planLoaded = true ∧ s.BlockReachable
        ∧ s.allowed (p.addr + 0x0C) 4 = true ∧ (∃ w, s.bus.writes = [message0] ++ w :: [] ∧ w.tag = .resultStatus pos0)
        ∧ message0.tracked = false := by
  rintro st (rfl | rfl)
  all_goals exact ⟨rfl, rfl, rfl, rfl, rfl, rfl, rfl, rfl, rfl, by unfold State.BlockReachable; decide +kernel,
    by decide +kernel, ⟨_, rfl, rfl⟩, rfl⟩

/-- R155, R156: the plan ends in STOPPED with the writes of the handover alone, ten of them, and no write-back. -/
theorem test_plan_end_stops :
    nextIs .resultStatusIssued (lastStep .running) (fun t => t.run.state == .stopped && t.evu.events.getLsbD 6
      && t.bus.writes.isEmpty && t.bus.nextWrite == 10 && t.plr.cursorAddr == 0) = true := by decide +kernel

theorem witness_FaultRecordReadsBack :
    fault0.cause < 256 ∧ (∀ i, fault0.idx = some i → i ≤ 30) :=
  ⟨by decide, fun _ h => by cases h; decide⟩

/-! ### Witnesses: the log, the frame unit, the arbiter and the control steps -/

theorem witness_FaultTaken_recorded : stopped.LogOff ∧ (logWith 15).LogReady :=
  ⟨.inl rfl, rfl, rfl, rfl, by decide +kernel, by decide +kernel⟩

/-- A full ring with a re-read out and faults on the pending list. -/
def waits (n : Nat) : State :=
  let s := logWith 16
  { s with evu := { s.evu with reread := some 3, pendingFaults := List.replicate n fault0 } }

theorem witness_FaultTaken_waits :
    (waits 7).evu.inForce = true ∧ (waits 7).evu.overflow = false ∧ (waits 7).evu.reread.isSome = true
      ∧ (waits 7).evu.pendingFaults.length < 8 ∧ 8 ≤ (waits 8).evu.pendingFaults.length
      ∧ (logWith 16).evu.reread = none
      ∧ 2 ^ (logWith 16).evu.sizeCode ≤ ((logWith 16).evu.writeIdx - (logWith 16).evu.readIdx).toNat := by decide +kernel

theorem witness_TransformRounds :
    (-1000000 ≤ (1000000 : Int) ∧ (1000000 : Int) ≤ 1000000 ∧ -1000000 ≤ (-1000000 : Int) ∧ (-1000000 : Int) ≤ 1000000)
      ∧ ¬(-1000000 ≤ (1000001 : Int) ∧ (1000001 : Int) ≤ 1000000 ∧ -1000000 ≤ (0 : Int) ∧ (0 : Int) ≤ 1000000)
      ∧ (-1048576 : Int).natAbs ≤ 1048576 ∧ (-2000 : Int).natAbs ≤ 2000 := by decide

/-- An OPEN top side with head 0 IDLE in bands 2 to 4, in the way of a boundary at 4. -/
def idleTop : State := { stopped.setHead 0 { headIn .idle with enabled := true } with sides := ⟨true, false⟩ }

theorem witness_CascadesClear :
    (∃ ys, idleTop.leftCascade .top 3 1 = some ys ∧ ys.map (·.band) = [2]) ∧ (3 ≤ 63) ∧ 1 ≤ 3
      ∧ ∃ ys, (idleTop.setHead 3 { headIn .idle with enabled := true, held := some ⟨40, 42⟩, x := 202500 }).rightCascade .top 41 1 =
          some ys ∧ ys.map (·.band) = [42] := by
  refine ⟨⟨_, rfl, by decide +kernel⟩, by decide, by decide, ⟨_, rfl, by decide +kernel⟩⟩

/-- The main part of head 1 and the yield of head 0 that clears its way, in a state. -/
def main1 : MainPart := { point := .a, head := 1, target := (15000, 40), sweep := ⟨3, 6⟩ }
def yield0 (st : YieldState) : Yield :=
  { head := 0, rightward := false, band := 2, target := (12500, 0), sweep := ⟨2, 4⟩, state := st }
def yield2 (st : YieldState) : Yield :=
  { head := 2, rightward := true, band := 20, target := (102500, 0), sweep := ⟨10, 20⟩, state := st }

/-- Heads 0 and 1 IDLE beside each other, and a step with a yield group on them. -/
def yielding (ys : List Yield) (st : RunState) : State :=
  let s := ((inRun st).setHead 0 { headIn .idle with held := some ⟨2, 2⟩ }).setHead 1 { headIn .idle with held := some ⟨6, 6⟩ }
  { s with window := [{ entry0 .yielding res2 with group := some ⟨[main1], ys⟩ }] }

theorem witness_CascadesClear_group :
    (let s := yielding [] .running;
      (yield0 .held).state = .held ∧ (yield0 .held).head ≠ main1.head ∧ (s.lane 0).out = .free ∧ (s.lane 0).txTimer = none ∧ (s.head 0).state = .idle
        ∧ s.mayHold 0 (yield0 .held).sweep = true
        ∧ (∀ b : Fin 64, 2 ≤ b.val → b.val ≤ 4 → s.holder .top b.val = none ∨ s.holder .top b.val = some 0))
    ∧ (let s := yielding [yield0 .out] .running
      ∃ e, s.entry? e.pos = some e ∧ e.group = some ⟨[main1], [yield0 .out]⟩ ∧ (s.lane 1).out = .free
        ∧ (s.lane 1).txTimer = none ∧ (s.head 1).state = .idle ∧ s.mayHold 1 main1.sweep = true)
    ∧ (∀ st run, (run = RunState.running ∨ run = .draining) →
      let s := yielding [yield0 .out, yield2 st] run
      ∃ e, s.window = [e] ∧ e.group = some ⟨[main1], [yield0 .out, yield2 st]⟩ ∧ (yield2 st).head ≠ (yield0 .out).head
        ∧ (∀ m ∈ [main1], m.head ≠ (yield2 st).head) ∧ s.run.state = run) := by
  refine ⟨⟨rfl, by decide, rfl, rfl, rfl, by decide +kernel, by decide +kernel⟩,
    ⟨{ entry0 .yielding res2 with group := some ⟨[main1], [yield0 .out]⟩ }, rfl, rfl, rfl, rfl, rfl, by decide +kernel⟩, ?_⟩
  rintro st run -
  exact ⟨_, rfl, rfl, by simp [yield0, yield2], by simp [yield2, main1], rfl⟩

/-- A yield of a step, head 0, on its way. -/
theorem witness_OrderFails_yield :
    let s := ((yielding [yield0 .out] .running).setHead 0 { headOf .moving with serving := some .yielding }).modLane 0 fun l =>
      { l with out := .order (order9 .goto) }
    s.run.resetHeld = false ∧ s.LogReachable ∧ s.Receives 0 ∧ (s.lane 0).out = .order (order9 .goto)
      ∧ (s.head 0).answers .goto = true ∧ (s.head 0).state = .moving ∧ (s.head 0).assigned = some pos0
      ∧ (s.head 0).serving = some .yielding ∧ (s.head 0).heldOrder = none
      ∧ s.mayHold 0 (s.footprint (s.head 0).x) = true :=
  ⟨rfl, .inl (.inl rfl), ⟨nofun, rfl⟩, rfl, by decide +kernel, rfl, rfl, rfl, rfl, by decide +kernel⟩

theorem witness_CascadesClear_reached :
    (let s := (yielding [yield0 .out] .running).setHead 0
        { headIn .moving with assigned := some pos0, serving := some .yielding };
      (s.head 0).assigned = some pos0 ∧ (s.head 0).serving = some .yielding ∧ (s.head 0).state = .moving
        ∧ s.mayHold 0 (s.footprint 12500) = true)
    ∧ (let s := yielding [yield0 .held, yield2 .out] .running;
      ∃ e, s.window = [e] ∧ e.group = some ⟨[main1], [yield0 .held, yield2 .out]⟩ ∧ (s.lane 0).out = .free
        ∧ (s.lane 0).txTimer = none ∧ (s.head 0).state = .idle ∧ s.mayHold 0 (yield0 .held).sweep = true
        ∧ ∀ b : Fin 64, 2 ≤ b.val → b.val ≤ 4 → s.holder .top b.val = none ∨ s.holder .top b.val = some 0)
    ∧ (let main3 : MainPart := { point := .b, head := 3, target := (250000, 0), sweep := ⟨40, 50⟩ };
      let s := (yielding [] .running).setHead 3 { headIn .idle with held := some ⟨40, 42⟩ };
      let e := { entry0 .yielding res2 with group := some ⟨[main1, main3], [yield0 .out]⟩ };
      let t := { s with window := [e] };
      t.window = [e] ∧ main1.head ≠ main3.head
        ∧ (∀ h ∈ [main1.head, main3.head], (t.lane h).out = .free ∧ (t.lane h).txTimer = none ∧ (t.head h).state = .idle)
        ∧ t.mayHold 1 main1.sweep = true
        ∧ (t.modHead 1 fun x => { x with held := some main1.sweep }).mayHold 3 main3.sweep = true) := by
  refine ⟨⟨rfl, rfl, rfl, by decide +kernel⟩, ⟨_, rfl, rfl, rfl, rfl, rfl, by decide +kernel, by decide +kernel⟩,
    ⟨rfl, by decide, by decide +kernel, by decide +kernel, by decide +kernel⟩⟩

/-- A waiting RES2 step of the top side with ANY at both points, and its targets in bands 10 and 20. -/
def choosing : Entry :=
  let e := entry0 .waiting (fields [(0, 1, 1), (4, 1, 15), (5, 1, 15)])
  { e with a := { e.a with target := some (52500, 0) }, b := { e.b with target := some (102500, 0) } }

theorem witness_FewestBandsChosen :
    let s := idleTop.setHead 1 { headIn .idle with enabled := true, held := some ⟨12, 12⟩, x := 62500 }
    choosing.points = [.a, .b] ∧ ((s.bestPlan choosing).map (·.count) = some 18)
      ∧ (s.standing choosing .a).heads = [0, 1] ∧ idleTop.bestPlan choosing = none
      ∧ ({ choosing with request := fields [(0, 1, 6)] } : Entry).points = [.a] := by
  decide +kernel

theorem witness_GrantMoves :
    let s := laneAt .free { headIn .idle with held := some ⟨0, 0⟩ }
    let m : MainPart := { point := .b, head := 0, target := (315000, 40), sweep := ⟨0, 63⟩ }
    (s.lane m.head).out = .free ∧ (s.lane m.head).txTimer = none ∧ (s.head m.head).state = .idle
      ∧ s.mayHold m.head m.sweep = true :=
  ⟨rfl, rfl, rfl, by decide +kernel⟩

/-- A PENDING step of a request, in a part whose top work area reaches to 300,000. -/
def pendingStep (l : List (Nat × Nat × Nat)) : State :=
  let s := idleTop
  { s with
    fru := { s.fru with area := ⟨⟨300000, 300000⟩, ⟨0, 0⟩⟩ }
    bus := { s.bus with window := some (0x10000, 0x1FFFF) }
    window := [entry0 .pending (fields l)] }

theorem witness_PendingStepsTaken_dispatch :
    let r := [(0, 1, 1), (1, 1, 1), (4, 1, 15), (5, 1, 15), (0x10, 4, 52500), (0x18, 4, 102500), (0x30, 8, 9)]
    let v (l : List (Nat × Nat × Nat)) := (pendingStep (r ++ l)).dispatchVerdict (entry0 .pending (fields (r ++ l)))
    (entry0 .pending (fields r)).dispatches = true ∧ v [] = none ∧ v [(0, 1, 0x77)] = some .badStep
      ∧ v [(4, 1, 4)] = some .badStep ∧ v [(4, 1, 2), (5, 1, 2)] = some .badStep ∧ v [(0x28, 8, 10)] = some .badStep
      ∧ v [(1, 1, 0)] = some .badStep ∧ v [(0x10, 4, 300001)] = some .outOfReach
      ∧ v [(0x1C, 4, 300001)] = some .outOfReach ∧ v [(0x18, 4, 52600)] = some .pointsTooClose
      ∧ v [(4, 1, 1), (5, 1, 0)] = some .badStep := by decide +kernel

/-- RUNNING, with a PARK, a measurement step and a MARK in the window, in their phases, and head 0 in a state. -/
def ordering (park measure mark : StepPhase) (st : HeadState) : State :=
  { (inRun .running).setHead 0 (headIn st) with
    window :=
      [entry0 park (fields [(0, 1, 0x12)]), { entry0 measure (fields [(0, 1, 1)]) with pos := ⟨5, 1⟩, written := true },
        { entry0 mark (fields [(0, 1, 0x14)]) with pos := ⟨5, 2⟩ }] }

/-- R9, R12, R14: a PENDING PARK holds the younger step back and waits for head 0; a DONE one holds nothing back; and a MARK waits until
all older steps are DONE and written. -/
theorem witness_PendingStepsTaken_when :
    (∀ park measure mark st, ((ordering park measure mark st).window.map (·.pos)).Nodup)
    ∧ (ordering .pending .pending .pending .raising).Settled
    ∧ ((ordering .pending .pending .pending .idle).activateOne).isSome = true
    ∧ ((ordering .pending .pending .pending .idle).dispatchOne) = none
    ∧ ((ordering .done .pending .pending .raising).dispatchOne).isSome = true
    ∧ ((ordering .done .done .pending .raising).activateOne) = none
    ∧ (({ ordering .done .done .pending .raising with
        window := (ordering .done .done .pending .raising).window.map fun e => { e with written := true } } : State).activateOne).isSome
          = true := by
  refine ⟨fun _ _ _ _ => by simp [ordering, entry0, pos0, Entry.fresh], ⟨rfl, by decide +kernel⟩, ?_⟩
  decide +kernel

theorem witness_PendingStepsTaken_reload :
    let e (mask : Nat) := entry0 .pending (fields [(0, 1, 0x13), (4, 1, mask)])
    let s := { stopped with window := [e 2] }
    s.entry? (e 2).pos = some (e 2) ∧ s.BlockReachable ∧ reloadMask (e 2).request % 16 = 2
      ∧ reloadMask (e 15).request % 16 = 15 ∧ reloadMask (e 0xF0).request % 16 = 0
      ∧ s.allowed ((e 2).addr + 0x62) 30 = true ∧ s.allowed ((e 2).addr + 0x60) 2 = true :=
  ⟨rfl, by unfold State.BlockReachable; decide +kernel, by decide +kernel, by decide +kernel, by decide +kernel,
    by decide +kernel, by decide +kernel⟩

theorem witness_PendingStepsTaken_taken :
    let s := pendingStep []
    let head (a : Nat) := (entry0 .pending (fields [(4, 1, a), (5, 1, 7)])).request
    (∃ e, s.entry? e.pos = some e ∧ s.allowed (e.addr + 0x62) 30 = true ∧ s.allowed (e.addr + 0x60) 2 = true)
      ∧ frameSide (fields [(4, 1, 1), (0x10, 4, 1048576)]) = some .bottom ∧ (s.fru.transforms.get? 3).isSome = true
      ∧ (frameTransform (fields [(4, 1, 1), (0x10, 4, 1048576)])).inBounds = true
      ∧ (frameTransform (fields [(0x10, 4, 1048577)])).inBounds = false
      ∧ headAction (head 2) = some (.enable 7) ∧ headAction (head 3) = some (.disable 7)
      ∧ headAction (head 4) = some (.resetWear 7) ∧ headAction (head 5) = none
      ∧ (markTarget (fields [(8, 8, 0x1FFFC)])).toNat % 4 = 0
      ∧ inWindow s.bus.window (markTarget (fields [(8, 8, 0x1FFFC)])) 4 = true
      ∧ inWindow s.bus.window (markTarget (fields [(8, 8, 0x20000)])) 4 = false := by
  refine ⟨⟨entry0 .pending (fields []), by decide +kernel, by decide +kernel, by decide +kernel⟩, ?_⟩
  decide +kernel

theorem witness_PendingStepsTaken_worn :
    let s := (granted .moving .moving).modHead 0 fun x => { x with wearLimit := 5, touches := 5 }
    ∃ e, s.window = [e] ∧ e.phase = .granted ∧ (s.head 0).wearLimit ≠ 0 ∧ (s.head 0).wearLimit ≤ (s.head 0).touches
      ∧ (s.head 0).state ≠ .lost :=
  ⟨_, rfl, rfl, nofun, by decide +kernel, nofun⟩

theorem witness_SideStepsStart :
    idleTop.sides.get .top = true ∧ (idleTop.lane 0).out = .free ∧ (idleTop.lane 0).txTimer = none
      ∧ ((homeHeld .free (some 5)).lane 0).txTimer ≠ none ∧ idleTop.sides.get .bottom = false
      ∧ ((laneAt (.order (order9 .raise)) (headIn .raising)).lane 0).out ≠ .free
      ∧ ∃ e, { idleTop with window := [entry0 .pending 0] }.entry? pos0 = some e :=
  ⟨rfl, rfl, rfl, nofun, rfl, nofun, ⟨_, rfl⟩⟩

/-- A PARK of the top side that takes head 0, with head 0 in a state at X 12,500, its home in a band, and head 1 in a state in bands
6 to 8. -/
def parking (st st1 : HeadState) (homeX : Nat) (k : Park) : State :=
  { (idleTop.setHead 0 { headIn st with homeX := homeX }).setHead 1 { headIn st1 with held := some ⟨6, 8⟩ } with
    park := some k }

def park0 (rest : List HeadId) (moved : Bool) (current : Option HeadId) : Park :=
  { pos := pos0, side := .top, settled := [3], skipped := false, rest := rest, moved := moved, current := current }

theorem witness_SideStepsStart_turns :
    let k := park0 [0, 1] false none
    let clear := parking .idle .idle 27499 k
    let blocked (st1 : HeadState) := parking .idle st1 32500 k
    clear.park = some k ∧ k.rest = 0 :: [1] ∧ (0 : HeadId) ∉ k.settled ∧ (3 : HeadId) ∈ (park0 [3] true none).settled
      ∧ ((parking .lost .idle 12500 k).head 0).x = ((parking .lost .idle 12500 k).head 0).homeX
      ∧ ((parking .lost .idle 12500 k).head 0).y = ((parking .lost .idle 12500 k).head 0).homeY
      ∧ (clear.head 0).x ≠ (clear.head 0).homeX ∧ (clear.head 0).state = .idle
      ∧ clear.sweep (clear.head 0).x (clear.head 0).homeX = ⟨2, 5⟩ ∧ clear.mayHold 0 ⟨2, 5⟩ = true ∧ (clear.lane 0).out = .free
      ∧ (clear.lane 0).txTimer = none
      ∧ (∀ b : Fin 64, 2 ≤ b.val → b.val ≤ 5 →
          clear.holder .top b.val = some 0 ∨ clear.holder .top b.val = none ∧ clear.promised .top b.val = false)
      ∧ (∀ st1, st1 = HeadState.lost ∨ st1 = .idle →
          (blocked st1).sweep ((blocked st1).head 0).x ((blocked st1).head 0).homeX = ⟨2, 6⟩
            ∧ (blocked st1).holder .top 6 = some 1 ∧ ((blocked st1).head 1).state = st1) := by
  refine ⟨rfl, rfl, by decide +kernel, by decide +kernel, rfl, rfl, by decide +kernel, rfl, by decide +kernel, by decide +kernel,
    rfl, rfl, by decide +kernel, ?_⟩
  rintro st1 (rfl | rfl) <;> exact ⟨by decide +kernel, by decide +kernel, rfl⟩

theorem witness_SideStepsStart_ends :
    let out := (parking .moving .idle 32500 (park0 [1] true (some 0))).modHead 0 fun x =>
      { x with assigned := some pos0, serving := some .park }
    out.park = some (park0 [1] true (some 0)) ∧ (park0 [1] true (some 0)).current.isSome = true
      ∧ (out.head 0).assigned = some pos0 ∧ (out.head 0).serving = some .park ∧ (out.head 0).state = .moving
      ∧ out.mayHold 0 (out.footprint (out.head 0).x) = true ∧ (park0 [] true none).moved = true
      ∧ (park0 [] false none).rest = [] ∧ ∃ e, { out with window := [entry0 .active 0] }.entry? (park0 [] false none).pos = some e :=
  ⟨rfl, rfl, rfl, rfl, rfl, by decide +kernel, rfl, rfl, ⟨_, rfl⟩⟩

/-! ### Values worked by hand from the rules -/

/-- R32: 1,000.5 becomes 1,001 and -1,000.5 becomes -1,001. -/
theorem test_scale_rounds_half_away :
    let t : Transform := { valid := true, mirror := false, kppm := 0, ox := 10, oy := -10, c := 524288, s := 0 }
    transformPoint t 2001 (-2001) = some (1011, -1011) := by decide +kernel

/-- R37: with bands of 5,000 µm, X 24,999 lies in band 4 and X 25,000 in band 5. -/
theorem test_bands_begin_at_their_left_edge : bandOf 5000 24999 = 4 ∧ bandOf 5000 25000 = 5 := by decide +kernel

/-- R84: the CRC-8 of the digits 1 to 9 under the generator x^8 + x^2 + x + 1 is 0xF4. -/
theorem test_crc_of_nine_digits :
    [0x31#8, 0x32#8, 0x33#8, 0x34#8, 0x35#8, 0x36#8, 0x37#8, 0x38#8, 0x39#8].foldl crcByte 0#8 = 0xF4#8 := by decide +kernel

/-- R194: a REACHED with tag 3, X 4 and Y -1 puts its bytes in this order. -/
theorem test_frame_bytes :
    (List.range 11).map (frameByte (laneFrame 0x81 3 4 0xFFFFFFFF)) =
      [0x7E#8, 0x81#8, 0x03#8, 0x04#8, 0#8, 0#8, 0#8, 0xFF#8, 0xFF#8, 0xFF#8, 0xFF#8] := by decide +kernel

/-- R127, R132: 150,000 counts at range 3 are 1,500,000,000 µΩ, less leads of 255,000 µΩ. -/
theorem test_res2_value : StepKind.res2.evaluate [] .inRange 150000 3 255000 = .value 1499745000 false false := by
  decide +kernel

/-- R134: 999 ticks at range 5 are short and go up, and at range 6 are accepted as 999 fF. -/
theorem test_cap_short :
    StepKind.cap.evaluate [] .short 999 5 0 = .again 6 ∧ StepKind.cap.evaluate [] .short 999 6 0 = .value 999 false false := by
  decide +kernel

/-- R165: START requests the sixteen reads of the block. -/
theorem test_start_requests_the_block :
    (match exec .start State.reset with | .next t => t.bus.reads.map (·.addr.toNat) | _ => []) =
      (List.range 16).map (128 * ·) := by decide +kernel

/-- R164: RESUME in IDLE sets COMMAND_REFUSED, bit 4 of EVENTS. -/
theorem test_resume_refused_in_idle :
    (match exec .resume State.reset with | .next t => t.evu.events | _ => 0) = 0x10#8 := by decide +kernel

/-- R172: a guard pin that goes high in reset agrees with a closed guard and stops the timer. -/
theorem test_guard_closes :
    (match exec (.guardInputChange true) State.reset with | .next t => t.run.guardTimer | _ => some 9) = none := by
  decide +kernel

end Sys2Proof.Tests
end

section
/-! PROOF. Rounding half away from zero, and the Frame Unit's way of a CAD point to a machine point (R30-R33). -/

namespace Sys2Proof.Machine

/-! ### Rounding half away from zero (R32) -/

/-- q is the integer nearest to n ÷ d, and of greater magnitude than n ÷ d when it lies exactly one half away. -/
def NearestHalfAway (d : Nat) (q n : Int) : Prop :=
  2 * (q * d - n).natAbs ≤ d ∧ (2 * (q * d - n).natAbs = d → n.natAbs < (q * d).natAbs)

/-- Nearness looks at magnitudes only, so it is kept when quotient and numerator change sign together. -/
theorem NearestHalfAway.neg {d : Nat} {q n : Int} (h : NearestHalfAway d q n) : NearestHalfAway d (-q) (-n) := by
  have hdiff : (-q * d - -n).natAbs = (q * d - n).natAbs := by
    rw [Int.neg_mul]
    omega
  have hprod : (-q * d).natAbs = (q * d).natAbs := by rw [Int.neg_mul, Int.natAbs_neg]
  simpa only [NearestHalfAway, hdiff, hprod, Int.natAbs_neg] using h

/-- For a magnitude the quotient (2m + d) ÷ 2d is the nearest integer, and a half goes up. -/
theorem nearestHalfAway_of_magnitude {d : Nat} (hd : 0 < d) (m : Nat) :
    NearestHalfAway d (((2 * m + d) / (2 * d) : Nat) : Int) m := by
  generalize hq : (2 * m + d) / (2 * d) = q
  obtain ⟨hlow, hhigh⟩ := (Nat.div_eq_iff (by omega)).mp hq
  have hlow : 2 * (q * d) ≤ 2 * m + d := by rwa [Nat.mul_left_comm] at hlow
  have hhigh : 2 * m < 2 * (q * d) + d := by rw [Nat.mul_left_comm] at hhigh; omega
  have hcast : (q : Int) * (d : Int) = ((q * d : Nat) : Int) := (Int.natCast_mul q d).symm
  rw [NearestHalfAway, hcast]
  omega

/-- The model's rounding is rounding to the nearest integer, a half going to the greater magnitude. -/
theorem roundHalfAway_nearest {d : Nat} (hd : 0 < d) (n : Int) : NearestHalfAway d (roundHalfAway n d) n := by
  have hmag := nearestHalfAway_of_magnitude hd n.natAbs
  unfold roundHalfAway
  split
  case isTrue hneg =>
    have hn : n = -(n.natAbs : Int) := by omega
    simpa only [← hn] using hmag.neg
  case isFalse hpos =>
    have hn : (n.natAbs : Int) = n := by omega
    simpa only [hn] using hmag

/-- The scaled coordinate is nearest to v · (1,000,000 + kppm) ÷ (2^20 · 1,000,000). -/
theorem scaleCoord_nearest (t : Transform) (v : Int) :
    NearestHalfAway 1048576000000 (scaleCoord t v) (v * (1000000 + t.kppm)) :=
  roundHalfAway_nearest (by decide) _

/-! ### The magnitudes of the products (R31, R32) -/

/-- The magnitude of a product is at most the product of the magnitudes' bounds. -/
theorem natAbs_mul_le {x y : Int} {a b : Nat} (hx : x.natAbs ≤ a) (hy : y.natAbs ≤ b) : (x * y).natAbs ≤ a * b := by
  rw [Int.natAbs_mul]
  exact Nat.mul_le_mul hx hy

/-- A rotated point is at most twice the product of the CAD range and the largest coefficient. -/
theorem rotatePoint_natAbs_le {t : Transform} {x y : Int} (hx : x.natAbs ≤ 1000000) (hy : y.natAbs ≤ 1000000)
    (hc : t.c.natAbs ≤ 1048576) (hs : t.s.natAbs ≤ 1048576) :
    (rotatePoint t x y).1.natAbs ≤ 2097152000000 ∧ (rotatePoint t x y).2.natAbs ≤ 2097152000000 := by
  have hxc := natAbs_mul_le hx hc
  have hys := natAbs_mul_le hy hs
  have hxs := natAbs_mul_le hx hs
  have hyc := natAbs_mul_le hy hc
  simp only [rotatePoint]
  omega

/-- The scale factor 1,000,000 + kppm is at most 1,002,000 within R29's bounds. -/
theorem scaled_natAbs_le {v k : Int} (hv : v.natAbs ≤ 2097152000000) (hk : k.natAbs ≤ 2000) :
    (v * (1000000 + k)).natAbs ≤ 2097152000000 * 1002000 :=
  natAbs_mul_le hv (by omega)

/-! ### The whole transform (R30-R33) -/

/-- The CAD X as the rotation takes it: mirrored or as it is (R31). -/
def mirroredX (t : Transform) (xc : Int) : Int := if t.mirror = true then -xc else xc

/-- Mirroring keeps the magnitude. -/
theorem mirroredX_natAbs (t : Transform) (xc : Int) : (mirroredX t xc).natAbs = xc.natAbs := by
  unfold mirroredX
  split
  · exact Int.natAbs_neg xc
  · rfl

/-- Within the CAD range the point is mirrored, rotated, scaled and offset. -/
theorem transformPoint_in_range {t : Transform} {xc yc : Int} (hx : inCadRange xc = true) (hy : inCadRange yc = true) :
    transformPoint t xc yc =
      some (t.ox + scaleCoord t (rotatePoint t (mirroredX t xc) yc).1,
        t.oy + scaleCoord t (rotatePoint t (mirroredX t xc) yc).2) := by
  simp only [transformPoint, hx, hy, Bool.and_self, if_true, mirroredX]

/-- A point with a coordinate out of the CAD range is carried nowhere (R30). -/
theorem transformPoint_eq_none_iff {t : Transform} {xc yc : Int} :
    transformPoint t xc yc = none ↔ ¬(inCadRange xc = true ∧ inCadRange yc = true) := by
  simp [transformPoint]

theorem inCadRange_iff {v : Int} : inCadRange v = true ↔ -1000000 ≤ v ∧ v ≤ 1000000 := decide_eq_true_iff

/-- Settles O56: the transform equation, with the rounding and the magnitudes of its two coordinates. -/
theorem transformRounds : Obligations.TransformRounds := by
  intro t xc yc
  constructor
  · rintro ⟨hxlo, hxhi, hylo, hyhi⟩
    refine ⟨_, _, transformPoint_in_range (inCadRange_iff.mpr ⟨hxlo, hxhi⟩) (inCadRange_iff.mpr ⟨hylo, hyhi⟩),
      scaleCoord_nearest t _, scaleCoord_nearest t _, fun hc hs => ?_⟩
    have hx : (mirroredX t xc).natAbs ≤ 1000000 := by rw [mirroredX_natAbs]; omega
    obtain ⟨hxr, hyr⟩ := rotatePoint_natAbs_le hx (y := yc) (by omega) hc hs
    exact ⟨hxr, hyr, fun hk => ⟨scaled_natAbs_le hxr hk, scaled_natAbs_le hyr hk⟩⟩
  · intro hout
    rw [transformPoint_eq_none_iff, inCadRange_iff, inCadRange_iff]
    omega

end Sys2Proof.Machine
end

section
/-! PROOF. The state after reset: every item's value, and the four laws that it meets (R176). -/

namespace Sys2Proof.Machine

/-! ### What the tables of the reset state hold -/

@[simp] theorem State.reset_head (h : HeadId) : State.reset.head h = Head.atReset := PerHead.get_fill _ h

@[simp] theorem State.reset_lane (l : HeadId) : State.reset.lane l = Lane.atReset := PerHead.get_fill _ l

/-- The contact inputs of the reset state are open (notes/assumptions/1.md). -/
@[simp] theorem State.reset_contact (h : HeadId) : State.reset.contact h = Contact.atReset false := by
  show (PerHead.map Contact.atReset (.fill false)).get h = Contact.atReset false
  rw [PerHead.get_map, PerHead.get_fill]

/-- Every transform of every image and side is R25's invalid one; there is no image above 3. -/
theorem FrameUnit.atReset_transforms {g : Nat} {t : PerSide Transform} (d : Side)
    (h : FrameUnit.atReset.transforms.get? g = some t) : t.get d = Transform.atReset := by
  have ht : t = ⟨Transform.atReset, Transform.atReset⟩ := by
    match g with
    | 0 | 1 | 2 | 3 => exact (Option.some.inj h).symm
    | _ + 4 => cases h
  subst ht
  cases d <;> rfl

theorem FrameUnit.atReset_keepOut (d : Side) : FrameUnit.atReset.keepOut.get d = List.replicate 16 Rect.atReset := by
  cases d <;> rfl

theorem FrameUnit.atReset_area (d : Side) : FrameUnit.atReset.area.get d = ⟨0, 0⟩ := by
  cases d <;> rfl

/-- Each side has sixteen rectangles, none of them enabled (R25, R35). -/
theorem FrameUnit.atReset_keepOut_disabled (d : Side) :
    (FrameUnit.atReset.keepOut.get d).length = 16
      ∧ ∀ r ∈ FrameUnit.atReset.keepOut.get d, ¬(r.xmin ≤ r.xmax ∧ r.ymin ≤ r.ymax) := by
  rw [FrameUnit.atReset_keepOut]
  refine ⟨List.length_replicate, fun r hr => ?_⟩
  obtain rfl := List.eq_of_mem_replicate hr
  decide

/-! ### The four laws -/

/-- No head holds a band after reset, so no two ranges can meet (R62, R66). -/
theorem State.reset_bandLaw : State.reset.BandLaw := by
  constructor
  · intro h
    rw [State.reset_head]
    rfl
  · intro g h _
    rw [State.reset_head, State.reset_head]
    rfl

/-- The window, the reads and the page list are empty (R140, R149). -/
theorem State.reset_windowLaw : State.reset.WindowLaw := by
  constructor
  · exact Nat.zero_le _
  · exact Nat.zero_le _

/-- The two indices are equal, so no record is unread (R182). -/
theorem State.reset_logLaw : State.reset.LogLaw := Nat.zero_le _

/-- No touches, no wear limit and no lead value (R41, R53). -/
theorem State.reset_headLaw : State.reset.HeadLaw := by
  intro h
  rw [State.reset_head]
  exact ⟨Nat.zero_le _, Nat.zero_le _, Nat.zero_le _⟩

/-- Settles O9: the laws, then the items in the order of the statement. Those that no lemma is named for are the reset values
themselves. -/
theorem resetMeetsLaws : Obligations.ResetMeetsLaws := by
  refine ⟨State.reset_bandLaw, State.reset_windowLaw, State.reset_logLaw, State.reset_headLaw,
    rfl, rfl, rfl, rfl, rfl, rfl, rfl, rfl, rfl, ?headState, ?laneSilent, rfl, rfl, rfl, rfl, ?transforms, ?rectangles,
    rfl, rfl, ?heads, ?lanes, rfl, rfl, ?contacts, rfl, rfl, rfl, rfl, rfl, rfl, rfl⟩
  case headState => intro h; rw [State.reset_head]; rfl
  case laneSilent => intro h; rw [State.reset_lane]; rfl
  case transforms => exact fun _ _ d h => FrameUnit.atReset_transforms d h
  case rectangles =>
    intro d
    obtain ⟨hlength, hdisabled⟩ := FrameUnit.atReset_keepOut_disabled d
    exact ⟨hlength, hdisabled, FrameUnit.atReset_area d⟩
  case heads => exact State.reset_head
  case lanes => exact State.reset_lane
  case contacts => exact State.reset_contact

end Sys2Proof.Machine
end

section
/-! PROOF. The head table, and the operations that leave every head alone. -/

namespace Sys2Proof

/-- A function taken over a table with one item replaced. -/
@[simp] theorem PerHead.map_set {α β : Type} (f : α → β) (v : PerHead α) (h : HeadId) (a : α) :
    (v.set h a).map f = (v.map f).set h (f a) := by
  apply PerHead.ext_get
  intro g
  simp only [PerHead.get_map, PerHead.get_set]
  split <;> rfl

end Sys2Proof

namespace Sys2Proof.Machine

/-- What no single turn of a fold changes, the fold does not change. -/
theorem foldl_view {α β : Type} (view : State → β) {f : State → α → State} (hf : ∀ s a, view (f s a) = view s)
    (l : List α) (s : State) : view (l.foldl f s) = view s :=
  List.foldlRecOn l f (motive := fun t => view t = view s) rfl fun t ht a _ => (hf t a).trans ht

section
variable (s : State)

/-! ### Choices, host accesses, events and the fault log -/

@[simp] theorem choose_heads (n : Nat) : (s.choose n).2.heads = s.heads := by
  obtain ⟨_, h⟩ := choose_only s n
  rw [h]

@[simp] theorem pushWrite_heads (tag : WriteTag) (a : Addr) (len : Nat) (d : BitVec 256) :
    (s.pushWrite tag a len d).heads = s.heads := rfl

@[simp] theorem pushRead_heads (r : ReadPurpose) (a : Addr) : (s.pushRead r a).heads = s.heads := rfl

@[simp] theorem callEval_heads (d : Side) : (s.callEval d).heads = s.heads := rfl

theorem callEvals_heads (ds : List Side) : (ds.foldl State.callEval s).heads = s.heads :=
  foldl_view State.heads callEval_heads ds s

@[simp] theorem putEvents_heads (ev en : BitVec 8) : (s.putEvents ev en).heads = s.heads := by
  rw [putEvents_eq]

@[simp] theorem setEvent_heads (e : Event) : (s.setEvent e).heads = s.heads := putEvents_heads s _ _

@[simp] theorem setOverflow_heads : s.setOverflow.heads = s.heads := by
  obtain ⟨_, _, h⟩ := setOverflow_only s
  rw [h]

@[simp] theorem recordFault_heads (f : FaultRecord) : (s.recordFault f).heads = s.heads := by
  unfold State.recordFault
  dsimp only
  split
  · exact setEvent_heads _ _
  · rfl

@[simp] theorem submit_heads (b : Submission) : (s.submit b).heads = s.heads := takeFault_heads s _

@[simp] theorem submitPart_heads (k : FaultKind) (p : Option Pos) (c : Nat) (d : Word) :
    (s.submitPart k p c d).heads = s.heads := submit_heads s _

@[simp] theorem submitHead_heads (k : FaultKind) (h : HeadId) (c : Nat) (d : Word) :
    (s.submitHead k h c d).heads = s.heads := submit_heads s _

@[simp] theorem refuseAccess_heads (p : Option Pos) (seq : Word) (a : Addr) : (s.refuseAccess p seq a).heads = s.heads :=
  submit_heads s _

@[simp] theorem requestWrite_heads (tag : WriteTag) (a : Addr) (len : Nat) (d : BitVec 256) (p : Option Pos) :
    (s.requestWrite tag a len d p).heads = s.heads := by
  unfold State.requestWrite
  split
  · rfl
  · exact refuseAccess_heads s _ _ _

@[simp] theorem requestRead_heads (r : ReadPurpose) (a : Addr) (len : Nat) (p : Option Pos) (seq : Word) :
    (s.requestRead r a len p seq).heads = s.heads := by
  unfold State.requestRead
  split
  · rfl
  · exact refuseAccess_heads s _ _ _

theorem drainPending_heads (fs : List FaultRecord) : (drainPending fs s).heads = s.heads := by
  induction fs generalizing s with
  | nil => rfl
  | cons f fs ih =>
    unfold drainPending
    split
    · rfl
    · split
      · exact (ih _).trans (recordFault_heads s f)
      · exact setOverflow_heads s

@[simp] theorem finishReread_heads (r : Word) : (s.finishReread r).heads = s.heads := drainPending_heads _ _

@[simp] theorem failReread_heads : s.failReread.heads = s.heads := setOverflow_heads _

@[simp] theorem writeCursor_heads : s.writeCursor.heads = s.heads := requestWrite_heads s _ _ _ _ _

@[simp] theorem writeAllCounts_heads : s.writeAllCounts.heads = s.heads :=
  foldl_view State.heads (fun s _ => requestWrite_heads s _ _ _ _ _) allHeads s

@[simp] theorem writeBack_heads : s.writeBack.heads = s.heads := by
  unfold State.writeBack
  split
  · rw [writeAllCounts_heads, writeCursor_heads]
  · rfl

/-! ### Results, PARK's progress and yield groups -/

@[simp] theorem handResult_heads (e : Entry) : (s.handResult e).heads = s.heads := by simp [State.handResult]

@[simp] theorem finishStep_heads (p : Pos) (v : Verdict) : (s.finishStep p v).heads = s.heads := by
  unfold State.finishStep
  split
  · rfl
  · exact handResult_heads _ _

@[simp] theorem abandon_heads (p : Pos) : (s.abandon p).heads = s.heads := by
  unfold State.abandon
  split <;> rfl

@[simp] theorem groupDissolved_heads (g : YieldGroup) : (s.groupDissolved g).heads = s.heads := callEvals_heads s _

@[simp] theorem parkMoveEnded_heads (h : HeadId) (k : Bool) : (s.parkMoveEnded h k).heads = s.heads := rfl

@[simp] theorem markYield_heads (p : Pos) (h : HeadId) (st : YieldState) : (s.markYield p h st).heads = s.heads := rfl

@[simp] theorem endWaiting_heads (e : Entry) (v : Verdict) : (s.endWaiting e v).heads = s.heads :=
  (callEvals_heads _ _).trans (finishStep_heads s _ _)

/-! ### The receive line and the lanes -/

@[simp] theorem setReceiver_heads (l : HeadId) (r : Receiver) : (s.setReceiver l r).heads = s.heads := rfl

@[simp] theorem retireLane_heads (l : HeadId) : (s.retireLane l).heads = s.heads := rfl

@[simp] theorem expireLane_heads (l : HeadId) : (s.expireLane l).heads = s.heads := rfl

@[simp] theorem stopWindow_heads (h : HeadId) : (s.stopWindow h).heads = s.heads := rfl

@[simp] theorem startWindow_heads (h : HeadId) : (s.startWindow h).heads = s.heads := rfl

@[simp] theorem lateReply_heads (l : HeadId) (k : ReplyKind) (tag : Byte) (u : Bool) : (s.lateReply l k tag u).heads = s.heads := by
  unfold State.lateReply
  split
  · rfl
  · exact submitHead_heads s _ _ _ _

@[simp] theorem discardFrame_heads (l : HeadId) (c : Nat) (code : Byte) : (s.discardFrame l c code).heads = s.heads :=
  submitHead_heads s _ _ _ _

@[simp] theorem frameGap_heads (l : HeadId) : (s.frameGap l).heads = s.heads := by
  unfold State.frameGap
  split
  · exact discardFrame_heads s _ _ _
  · rfl

@[simp] theorem receiverIdle_heads (l : HeadId) : (s.receiverIdle l).heads = s.heads := by
  unfold State.receiverIdle
  split <;> rfl

@[simp] theorem startByteArrives_heads (l : HeadId) : (s.startByteArrives l).heads = s.heads := by
  unfold State.startByteArrives
  split
  · rfl
  · split <;> rfl
  · rfl

/-! ### The engine's attempts -/

theorem engineTake_heads {t : State} (h : s.engineTake = some t) : t.heads = s.heads := by
  unfold State.engineTake at h
  split at h
  · obtain ⟨e, -, h⟩ := Option.bind_eq_some_iff.mp h
    obtain ⟨k, -, rfl⟩ := Option.map_eq_some_iff.mp h
    rfl
  · cases h

@[simp] theorem settled_heads : s.settled.heads = s.heads := by
  unfold State.settled
  split <;> rfl

/-! ### Dispatch and the control steps that move no head -/

@[simp] theorem dispatchStep_heads (e : Entry) : (s.dispatchStep e).heads = s.heads := by
  unfold State.dispatchStep
  split
  · exact finishStep_heads s _ _
  · exact callEvals_heads _ _

theorem dispatchOne_heads {t : State} (h : s.dispatchOne = some t) : t.heads = s.heads := by
  unfold State.dispatchOne at h
  split at h
  · cases h
  · cases h
    exact (dispatchStep_heads _ _).trans (choose_heads s _)

theorem homingEnd_heads {t : State} (h : s.homingEnd = some t) : t.heads = s.heads := by
  obtain ⟨⟨e, d⟩, -, h⟩ := Option.bind_eq_some_iff.mp h
  dsimp only at h
  split at h
  · cases h
  · split at h <;> cases h
    · exact finishStep_heads _ _ _
    · exact finishStep_heads _ _ _

@[simp] theorem finishPark_heads (p : Pos) (k : Bool) : (s.finishPark p k).heads = s.heads := finishStep_heads _ _ _

@[simp] theorem startPark_heads (p : Pos) (d : Side) : (s.startPark p d).heads = s.heads := by
  unfold State.startPark
  split
  · rfl
  · exact finishPark_heads s _ _

@[simp] theorem startReload_heads (p : Pos) (m : Nat) : (s.startReload p m).heads = s.heads := by
  unfold State.startReload
  split
  · exact finishStep_heads s _ _
  · exact foldl_view State.heads (fun s _ => requestRead_heads s _ _ _ _ _) _ _

@[simp] theorem applyLimits_heads (b : ControlBlock) : (s.applyLimits b).heads = s.heads := rfl

@[simp] theorem runFrame_heads (e : Entry) : (s.runFrame e).heads = s.heads := by
  unfold State.runFrame
  dsimp only
  split
  · split
    · exact finishStep_heads _ _ _
    · exact finishStep_heads _ _ _
  · exact finishStep_heads _ _ _

@[simp] theorem runMark_heads (e : Entry) : (s.runMark e).heads = s.heads := by
  unfold State.runMark
  dsimp only
  split
  · exact requestWrite_heads _ _ _ _ _ _
  · exact finishStep_heads _ _ _

theorem liftingEnd_heads {t : State} (h : s.liftingEnd = some t) : t.heads = s.heads := by
  obtain ⟨e, -, rfl⟩ := Option.map_eq_some_iff.mp h
  exact finishStep_heads s _ _

/-! ### The Plan Reader -/

@[simp] theorem dropRead_heads (id : Nat) : (s.dropRead id).heads = s.heads := rfl

@[simp] theorem stopPoll_heads : s.stopPoll.heads = s.heads := rfl

@[simp] theorem badPage_heads (x : Word) (c : Nat) (v : Word) : (s.badPage x c v).heads = s.heads := submit_heads s _

@[simp] theorem startPoll_heads : s.startPoll.heads = s.heads := by
  unfold State.startPoll
  split <;> rfl

@[simp] theorem enterFetch_heads (f : FetchState) : (s.enterFetch f).heads = s.heads := startPoll_heads _

@[simp] theorem starve_heads : s.starve.heads = s.heads := by
  unfold State.starve
  split
  · exact setEvent_heads _ _
  · rfl

@[simp] theorem takeHeader_heads (d : Block) (poll : Bool) : (s.takeHeader d poll).heads = s.heads := by
  simp [State.takeHeader, apply_ite State.heads]

@[simp] theorem headerReturn_heads (poll : Bool) (d : Block) : (s.headerReturn poll d).heads = s.heads := by
  unfold State.headerReturn
  dsimp only
  split
  · exact badPage_heads s _ _ _
  · exact takeHeader_heads s _ _

theorem enterReturned_heads (n : Nat) : (s.enterReturned n).heads = s.heads := by
  induction n generalizing s with
  | zero => rfl
  | succ n ih =>
    unfold State.enterReturned
    split
    · rfl
    · exact ih _

@[simp] theorem recordReturn_heads (id : Nat) (d : Block) : (s.recordReturn id d).heads = s.heads := enterReturned_heads _ _

@[simp] theorem issueRecord_heads (p : Page) : (s.issueRecord p).heads = s.heads := by
  simp [State.issueRecord, apply_ite State.heads]

@[simp] theorem issueHeader_heads (a : Addr) (poll : Bool) (x : Word) : (s.issueHeader a poll x).heads = s.heads := by
  simp [State.issueHeader]

@[simp] theorem chainOn_heads (a : Addr) (seq : Word) : (s.chainOn a seq).heads = s.heads := by
  unfold State.chainOn
  split
  · exact badPage_heads s _ _ _
  · split
    · exact badPage_heads s _ _ _
    · exact issueHeader_heads _ _ _ _

theorem fetchStep_heads {t : State} (h : s.fetchStep = some t) : t.heads = s.heads := by
  unfold State.fetchStep at h
  repeat' split at h
  all_goals cases h
  · exact issueHeader_heads s _ _ _
  · exact issueHeader_heads s _ _ _
  · exact enterFetch_heads s _
  · exact issueRecord_heads s _
  · exact startPoll_heads s
  · exact chainOn_heads s _ _

@[simp] theorem pollExpires_heads : s.pollExpires.heads = s.heads := by
  unfold State.pollExpires
  split
  · exact issueHeader_heads _ _ _ _
  · rfl

/-! ### Writes issued, and retirement -/

@[simp] theorem markIssued_heads (p : Pos) (id : Nat) : (s.markIssued p id).heads = s.heads := by
  unfold State.markIssued
  split
  · rfl
  · split
    · dsimp only
      split
      · rw [setEvent_heads, finishStep_heads]
      · exact finishStep_heads s _ _
    · rfl

@[simp] theorem writeAheadIssued_heads : s.writeAheadIssued.heads = s.heads := by
  unfold State.writeAheadIssued
  split <;> rfl

@[simp] theorem issueWrite_heads (w : HostWrite) (rest : List HostWrite) : (s.issueWrite w rest).heads = s.heads := by
  unfold State.issueWrite
  dsimp only
  split
  · exact writeAheadIssued_heads _
  · exact (markIssued_heads _ _ _).trans (writeAheadIssued_heads _)
  · exact writeAheadIssued_heads _

theorem issueAll_heads (n : Nat) : (s.issueAll n).heads = s.heads := by
  fun_induction State.issueAll n s with
  | case1 s n w rest _ ih => exact ih.trans (issueWrite_heads s w rest)
  | case2 => rfl

@[simp] theorem issueQueue_heads : s.issueQueue.heads = s.heads := issueAll_heads s _

theorem retireOne_heads {t : State} (h : s.retireOne = some t) : t.heads = s.heads := by
  unfold State.retireOne at h
  repeat' split at h
  all_goals cases h
  rfl

theorem retirePage_heads {t : State} (h : s.retirePage = some t) : t.heads = s.heads := by
  unfold State.retirePage at h
  split at h
  · cases h
  · split at h
    · cases h
      simp [apply_ite State.heads]
    · cases h

theorem retireStep_heads {t : State} (h : s.retireStep = some t) : t.heads = s.heads := by
  unfold State.retireStep at h
  split at h
  · cases h
    exact retirePage_heads s ‹_›
  · exact retireOne_heads s h

theorem sweepRetired_heads (n : Nat) : (s.sweepRetired n).heads = s.heads := by
  induction n generalizing s with
  | zero => rfl
  | succ n ih =>
    unfold State.sweepRetired
    split
    · rfl
    · exact (ih _).trans (retireStep_heads s ‹_›)

@[simp] theorem issueThrough_heads (f : WriteTag → Bool) : (s.issueThrough f).heads = s.heads := by
  unfold State.issueThrough
  split
  · rfl
  · split
    · rw [issueWrite_heads]
      exact foldl_view State.heads (fun s _ => writeAheadIssued_heads s) _ s
    · rfl

/-! ### Run Control -/

@[simp] theorem leaveLoad_heads : s.leaveLoad.heads = s.heads := by
  unfold State.leaveLoad
  split <;> rfl

@[simp] theorem setRun_heads (st : RunState) (r : Option ResumeTarget) : (s.setRun st r).heads = s.heads := rfl

@[simp] theorem enterStopped_heads : s.enterStopped.heads = s.heads := by
  simp [State.enterStopped, apply_ite State.heads, sweepRetired_heads]

@[simp] theorem discardWindow_heads : s.discardWindow.heads = s.heads := rfl

@[simp] theorem beginLoad_heads : s.beginLoad.heads = s.heads := rfl

@[simp] theorem requestBlock_heads (a : Addr) : (s.requestBlock a).heads = s.heads :=
  foldl_view State.heads (fun s _ => pushRead_heads s _ _) _ s

@[simp] theorem recordInvalid_heads (l : Load) (k : Nat) : (s.recordInvalid l k).heads = s.heads := by
  unfold State.recordInvalid
  dsimp only
  split
  · split
    · rw [setEvent_heads, pushWrite_heads, pushWrite_heads]
    · exact setOverflow_heads s
  · rfl

@[simp] theorem loadFrame_heads (b : ControlBlock) : (s.loadFrame b).heads = s.heads := rfl

@[simp] theorem loadLog_heads (b : ControlBlock) : (s.loadLog b).heads = s.heads := rfl

@[simp] theorem loadPlan_heads (b : ControlBlock) : (s.loadPlan b).heads = s.heads := issueHeader_heads _ _ _ _

@[simp] theorem issueAhead_heads (n : Nat) : (s.issueAhead n).heads = s.heads := by
  induction n generalizing s with
  | zero => rfl
  | succ n ih =>
    unfold State.issueAhead
    split
    · split
      · rfl
      · exact (ih _).trans (issueWrite_heads s _ _)
    · rfl

@[simp] theorem resumeTo_heads (t : ResumeTarget) : (s.resumeTo t).heads = s.heads := by
  unfold State.resumeTo
  repeat' split
  all_goals simp

@[simp] theorem takePlanEnd_heads : s.takePlanEnd.heads = s.heads := by
  unfold State.takePlanEnd
  split <;> simp

@[simp] theorem heldContact_heads (h : HeadId) (m : Bool) : (s.heldContact h m).heads = s.heads := rfl

@[simp] theorem heldGuard_heads (b : Bool) : (s.heldGuard b).heads = s.heads := rfl

/-! ### The ends of an event, and a tick -/

@[simp] theorem finish_heads : s.finish.heads = s.heads := rfl

theorem retireDue_heads {t : State} (h : s.retireDue = some t) : t.heads = s.heads := by
  unfold State.retireDue at h
  split at h
  · exact retireStep_heads s h
  · cases h

theorem planEndDue_heads {t : State} (h : s.planEndDue = some t) : t.heads = s.heads := by
  unfold State.planEndDue at h
  split at h <;> cases h
  exact takePlanEnd_heads s

theorem drainEnd_heads {t : State} (h : s.drainEnd = some t) : t.heads = s.heads := by
  unfold State.drainEnd at h
  split at h <;> cases h
  exact enterStopped_heads s

@[simp] theorem issueUntracked_heads : s.issueUntracked.heads = s.heads := by
  unfold State.issueUntracked
  repeat' split
  · rfl
  · exact issueWrite_heads s _ _
  · rfl

@[simp] theorem tick_heads : s.tick.heads = s.heads := by
  simp [State.tick, State.tickUs, State.tickMs, apply_ite State.heads]

end

end Sys2Proof.Machine
end

section
/-! PROOF. The band table, and the operations that leave it alone: they change heads, but no held range (R62). -/

namespace Sys2Proof.Machine

/-- The band table: the range that each head holds (R62). -/
@[simp] abbrev State.bandTable (s : State) : PerHead (Option Range) := s.heads.map Head.held

/-- A head's range written back leaves the table. -/
@[simp] theorem set_held_self (v : PerHead Head) (h : HeadId) :
    (v.map Head.held).set h (v.get h).held = v.map Head.held := by
  rw [← PerHead.get_map Head.held, PerHead.set_get]

/-- A change of every head that leaves what it holds leaves the table. -/
theorem map_held_of_kept {f : Head → Head} (hf : ∀ x, (f x).held = x.held) (v : PerHead Head) :
    (v.map f).map Head.held = v.map Head.held := by
  apply PerHead.ext_get
  intro g
  simp only [PerHead.get_map, hf]

/-- A change of one head that leaves what it holds leaves the table. -/
theorem modHead_bandTable (s : State) {h : HeadId} {f : Head → Head} (hf : (f (s.head h)).held = (s.head h).held) :
    (s.modHead h f).bandTable = s.bandTable := by
  rw [State.bandTable, State.modHead_heads, PerHead.map_set, hf, State.head, set_held_self]

section
variable (s : State)

/-! ### Orders, HALTs and releases (R43-R46, R89, R90) -/

@[simp] theorem issueOrder_bandTable (h : HeadId) (o : Order) : (s.issueOrder h o).bandTable = s.bandTable :=
  modHead_bandTable _ rfl

@[simp] theorem requestOrder_bandTable (h : HeadId) (o : Order) : (s.requestOrder h o).bandTable = s.bandTable := by
  unfold State.requestOrder
  split
  · exact issueOrder_bandTable s h o
  · exact modHead_bandTable s rfl

@[simp] theorem sendHalt_bandTable (h : HeadId) : (s.sendHalt h).bandTable = s.bandTable := by
  unfold State.sendHalt
  split
  · rfl
  · exact modHead_bandTable _ rfl

@[simp] theorem requestHalt_bandTable (h : HeadId) : (s.requestHalt h).bandTable = s.bandTable := by
  unfold State.requestHalt
  split
  · rfl
  · split
    · exact sendHalt_bandTable s h
    · rfl

@[simp] theorem raiseHead_bandTable (h : HeadId) : (s.raiseHead h).bandTable = s.bandTable :=
  requestOrder_bandTable _ h _

@[simp] theorem requestRaise_bandTable (h : HeadId) : (s.requestRaise h).bandTable = s.bandTable := by
  unfold State.requestRaise
  split
  · exact raiseHead_bandTable s h
  · exact raiseHead_bandTable s h
  · exact modHead_bandTable s rfl
  · rfl

@[simp] theorem releaseHead_bandTable (h : HeadId) : (s.releaseHead h).bandTable = s.bandTable := by
  simp [State.releaseHead, State.head]

/-! ### Assignments: LIFTING, failed points, failed yields and lost heads (R18, R20, R47, R79) -/

@[simp] theorem liftHeads_bandTable (p : Pos) : (s.liftHeads p).bandTable = s.bandTable := by
  refine foldl_view State.bandTable (fun s h => ?_) allHeads s
  split
  · exact requestRaise_bandTable s h
  · rfl

@[simp] theorem enterLifting_bandTable (p : Pos) : (s.enterLifting p).bandTable = s.bandTable := by
  simp [State.enterLifting]

@[simp] theorem pointFail_bandTable (p : Pos) (n : PointName) (v : Verdict) : (s.pointFail p n v).bandTable = s.bandTable := by
  unfold State.pointFail
  split
  · rfl
  · dsimp only
    split
    · exact enterLifting_bandTable _ p
    · rfl

@[simp] theorem landHead_bandTable (h : HeadId) : (s.landHead h).bandTable = s.bandTable := by
  unfold State.landHead
  dsimp only
  split <;> simp [State.head]

@[simp] theorem missPoint_bandTable (p : Pos) (n : PointName) (c : RetouchCause) :
    (s.missPoint p n c).bandTable = s.bandTable := by
  unfold State.missPoint
  repeat' split
  · rfl
  · rfl
  · rfl
  · exact pointFail_bandTable s p n _

@[simp] theorem unassign_bandTable (p : Pos) : (s.unassign p).bandTable = s.bandTable :=
  map_held_of_kept (fun x => by split <;> rfl) s.heads

@[simp] theorem returnStep_bandTable (p : Pos) : (s.returnStep p).bandTable = s.bandTable := by
  simp [State.returnStep]

@[simp] theorem detachYield_bandTable (r : Bool) (y : Yield) : (s.detachYield r y).bandTable = s.bandTable := by
  unfold State.detachYield
  split
  · exact modHead_bandTable s rfl
  · exact modHead_bandTable s rfl
  · rfl

@[simp] theorem detachMain_bandTable (m : MainPart) : (s.detachMain m).bandTable = s.bandTable :=
  modHead_bandTable s rfl

theorem detachYields_bandTable (r : Bool) (ys : List Yield) :
    (ys.foldl (State.detachYield r) s).bandTable = s.bandTable :=
  foldl_view State.bandTable (fun s y => detachYield_bandTable s r y) ys s

theorem detachMains_bandTable (ms : List MainPart) : (ms.foldl State.detachMain s).bandTable = s.bandTable :=
  foldl_view State.bandTable detachMain_bandTable ms s

@[simp] theorem failYield_bandTable (p : Pos) (h : HeadId) : (s.failYield p h).bandTable = s.bandTable := by
  unfold State.failYield
  split
  · rfl
  · split
    · rfl
    · dsimp only
      split <;> simp [callEvals_heads, detachMains_bandTable, detachYields_bandTable]

@[simp] theorem loseHead_bandTable (h : HeadId) : (s.loseHead h).bandTable = s.bandTable := by
  unfold State.loseHead
  dsimp only
  split <;> simp [State.head]

@[simp] theorem assignMain_bandTable (p : Pos) (m : MainPart) : (s.assignMain p m).bandTable = s.bandTable := by
  simp [State.assignMain, State.head]

@[simp] theorem assignYield_bandTable (p : Pos) (y : Yield) : (s.assignYield p y).bandTable = s.bandTable :=
  modHead_bandTable s rfl

/-! ### Replies that rewrite no bands (R42-R47, R50-R52, R93-R98, R105, R107) -/

@[simp] theorem judgeWorn_bandTable (h : HeadId) (p : Option Pos) : (s.judgeWorn h p).bandTable = s.bandTable := by
  unfold State.judgeWorn
  dsimp only
  split <;> simp [State.head]

@[simp] theorem countTouch_bandTable (h : HeadId) : (s.countTouch h).bandTable = s.bandTable :=
  (judgeWorn_bandTable _ _ _).trans (modHead_bandTable s rfl)

@[simp] theorem descendHead_bandTable (h : HeadId) (p : Pos) (n : PointName) :
    (s.descendHead h p n).bandTable = s.bandTable := by
  unfold State.descendHead
  split
  · exact (pointFail_bandTable _ _ _ _).trans (releaseHead_bandTable s h)
  · exact requestOrder_bandTable _ h _

@[simp] theorem settleLost_bandTable (h : HeadId) : (s.settleLost h).bandTable = s.bandTable := by
  unfold State.settleLost
  split
  · exact modHead_bandTable s rfl
  · rfl

@[simp] theorem issueHeld_bandTable (h : HeadId) : (s.issueHeld h).bandTable = s.bandTable := by
  have hdropped : (s.modHead h fun x => { x with heldOrder := none }).bandTable = s.bandTable := modHead_bandTable s rfl
  unfold State.issueHeld
  dsimp only
  split
  · split
    · exact hdropped
    · split
      · rfl
      · split
        · exact (descendHead_bandTable _ _ _ _).trans hdropped
        · exact (issueOrder_bandTable _ _ _).trans hdropped
  · rfl

@[simp] theorem touchDown_bandTable (h : HeadId) : (s.touchDown h).bandTable = s.bandTable := by
  unfold State.touchDown
  dsimp only
  split
  · split
    · exact landHead_bandTable s h
    · simp [State.head]
  · exact (raiseHead_bandTable _ h).trans (modHead_bandTable s rfl)

@[simp] theorem touchedReply_bandTable (h : HeadId) (o : SentOrder) (t : Word) :
    (s.touchedReply h o t).bandTable = s.bandTable := by
  unfold State.touchedReply
  dsimp only
  repeat' split
  all_goals simp

@[simp] theorem bottomedReply_bandTable (h : HeadId) : (s.bottomedReply h).bandTable = s.bandTable := by
  have hraised : ((s.modHead h fun x => { x with heldOrder := keepHome x.heldOrder }).raiseHead h).bandTable = s.bandTable :=
    (raiseHead_bandTable _ h).trans (modHead_bandTable s rfl)
  unfold State.bottomedReply
  dsimp only
  split
  · split
    · exact (missPoint_bandTable _ _ _ _).trans hraised
    · exact hraised
  · rfl

@[simp] theorem descendRefused_bandTable (h : HeadId) : (s.descendRefused h).bandTable = s.bandTable := by
  unfold State.descendRefused
  dsimp only
  split
  · exact (pointFail_bandTable _ _ _ _).trans (releaseHead_bandTable s h)
  · exact releaseHead_bandTable s h

@[simp] theorem raiseRefused_bandTable (h : HeadId) : (s.raiseRefused h).bandTable = s.bandTable := by
  unfold State.raiseRefused
  split
  · split
    · exact (pointFail_bandTable _ _ _ _).trans (releaseHead_bandTable s h)
    · exact releaseHead_bandTable s h
  · exact releaseHead_bandTable s h

@[simp] theorem haltLost_bandTable (h : HeadId) : (s.haltLost h).bandTable = s.bandTable := by
  unfold State.haltLost
  split
  · exact loseHead_bandTable s h
  · rfl

@[simp] theorem faultReply_bandTable (h : HeadId) (k : OrderKind) (c : Word) :
    (s.faultReply h k c).bandTable = s.bandTable := by
  unfold State.faultReply
  dsimp only
  split
  · simp
  · split <;> simp

@[simp] theorem timeoutHead_bandTable (h : HeadId) (k : OrderKind) : (s.timeoutHead h k).bandTable = s.bandTable := by
  unfold State.timeoutHead
  dsimp only
  repeat' split
  · rfl
  · rfl
  · exact loseHead_bandTable s h

@[simp] theorem expireOrder_bandTable (l : HeadId) : (s.expireOrder l).bandTable = s.bandTable := by
  unfold State.expireOrder
  dsimp only
  split <;> simp

@[simp] theorem sendPendingHalt_bandTable (l : HeadId) : (s.sendPendingHalt l).bandTable = s.bandTable := by
  unfold State.sendPendingHalt
  repeat' split
  · exact sendHalt_bandTable s l
  · exact issueHeld_bandTable _ l
  · rfl

/-! ### Contacts (R103-R109) -/

@[simp] theorem contactInTravel_bandTable (h : HeadId) : (s.contactInTravel h).bandTable = s.bandTable := by
  simp [State.contactInTravel]

@[simp] theorem contactLost_bandTable (h : HeadId) : (s.contactLost h).bandTable = s.bandTable := by
  unfold State.contactLost
  split
  · simp
  · rfl

@[simp] theorem filteredChange_bandTable (h : HeadId) (m : Bool) : (s.filteredChange h m).bandTable = s.bandTable := by
  unfold State.filteredChange
  dsimp only
  split
  · exact landHead_bandTable _ h
  · exact contactInTravel_bandTable _ h
  · exact contactLost_bandTable _ h
  · rfl

@[simp] theorem contactSample_bandTable (h : HeadId) (m : Bool) : (s.contactSample h m).bandTable = s.bandTable := by
  unfold State.contactSample
  dsimp only
  repeat' split
  · rfl
  · exact filteredChange_bandTable _ h m
  · rfl

@[simp] theorem contactFilterExpires_bandTable (h : HeadId) : (s.contactFilterExpires h).bandTable = s.bandTable := by
  unfold State.contactFilterExpires
  split
  · exact filteredChange_bandTable _ h _
  · rfl

@[simp] theorem bounce_bandTable (h : HeadId) : (s.bounce h).bandTable = s.bandTable := by
  unfold State.bounce
  repeat' split
  · exact (missPoint_bandTable _ _ _ _).trans (raiseHead_bandTable s h)
  · exact raiseHead_bandTable s h
  · rfl

/-! ### The engine's deliveries (R136, R139) -/

@[simp] theorem setLeads_bandTable (e : Entry) (raw : Nat) : (s.setLeads e raw).bandTable = s.bandTable := by
  unfold State.setLeads
  dsimp only
  repeat' split
  · exact (modHead_bandTable _ rfl).trans (modHead_bandTable s rfl)
  · exact modHead_bandTable s rfl
  · exact modHead_bandTable s rfl
  · rfl

@[simp] theorem deliver_bandTable (e : Entry) (k : StepKind) (v : Nat) (hi lo : Bool) :
    (s.deliver e k v hi lo).bandTable = s.bandTable := by
  unfold State.deliver
  dsimp only
  split <;> simp

@[simp] theorem closeAttempt_bandTable (e : Entry) (k : StepKind) (o : AttemptOutcome) (n : Int) :
    (s.closeAttempt e k o n).bandTable = s.bandTable := by
  unfold State.closeAttempt
  dsimp only
  split
  · rfl
  · exact deliver_bandTable _ _ _ _ _ _

@[simp] theorem sample_bandTable (v : Int) : (s.sample v).bandTable = s.bandTable := by
  unfold State.sample
  dsimp only
  repeat' split
  · rfl
  · rfl
  · rfl
  · exact closeAttempt_bandTable _ _ _ _ _

@[simp] theorem compliance_bandTable : s.compliance.bandTable = s.bandTable := by
  unfold State.compliance
  dsimp only
  split
  · rfl
  · split
    · rfl
    · exact closeAttempt_bandTable _ _ _ _ _
  · rfl

@[simp] theorem endCharge_bandTable (t : Option Nat) : (s.endCharge t).bandTable = s.bandTable := by
  unfold State.endCharge
  repeat' split
  · rfl
  · rfl
  all_goals exact closeAttempt_bandTable s _ _ _ _

@[simp] theorem crossing_bandTable (c : Tick) : (s.crossing c).bandTable = s.bandTable := by
  unfold State.crossing
  split
  · rfl
  · exact endCharge_bandTable _ _

/-! ### RELOAD (R16, R17) -/

@[simp] theorem applyHeads_bandTable (b : ControlBlock) : (s.applyHeads b).bandTable = s.bandTable :=
  foldl_view State.bandTable (fun s _ => (judgeWorn_bandTable _ _ _).trans (modHead_bandTable s rfl)) allHeads s

@[simp] theorem applyReload_bandTable (m : Nat) (b : ControlBlock) : (s.applyReload m b).bandTable = s.bandTable := by
  simp [State.applyReload, apply_ite State.heads, apply_ite (PerHead.map Head.held)]

@[simp] theorem finishReload_bandTable (k : Reload) : (s.finishReload k).bandTable = s.bandTable := by
  unfold State.finishReload
  dsimp only
  split <;> simp

@[simp] theorem reloadReturn_bandTable (id off : Nat) (d : Block) : (s.reloadReturn id off d).bandTable = s.bandTable := by
  unfold State.reloadReturn
  split
  · rfl
  · dsimp only
    repeat' split
    · exact finishReload_bandTable s _
    · rfl
    · rfl

/-! ### Run Control (R20, R100, R168-R176) -/

@[simp] theorem headToRest_bandTable (h : HeadId) : (s.headToRest h).bandTable = s.bandTable := by
  unfold State.headToRest
  repeat' split
  · exact requestHalt_bandTable s h
  · exact modHead_bandTable s rfl
  · exact requestHalt_bandTable s h
  · exact requestRaise_bandTable s h
  · exact requestRaise_bandTable s h
  · exact requestRaise_bandTable s h
  · rfl

@[simp] theorem returnSteps_bandTable : s.returnSteps.bandTable = s.bandTable :=
  foldl_view State.bandTable returnStep_bandTable _ s

@[simp] theorem bringToRest_bandTable : s.bringToRest.bandTable = s.bandTable :=
  (returnSteps_bandTable _).trans (foldl_view State.bandTable headToRest_bandTable allHeads s)

@[simp] theorem enterFaulted_bandTable : s.enterFaulted.bandTable = s.bandTable := by
  unfold State.enterFaulted
  split
  · rfl
  · dsimp only
    split <;> simp

@[simp] theorem guardTrip_bandTable : s.guardTrip.bandTable = s.bandTable := by
  unfold State.guardTrip
  dsimp only
  split <;> simp

@[simp] theorem guardChange_bandTable (o : Bool) : (s.guardChange o).bandTable = s.bandTable := by
  unfold State.guardChange
  dsimp only
  split
  · exact guardTrip_bandTable _
  · rfl

@[simp] theorem guardSample_bandTable (b : Bool) : (s.guardSample b).bandTable = s.bandTable := by
  unfold State.guardSample
  dsimp only
  repeat' split
  all_goals simp

@[simp] theorem guardFilterExpires_bandTable : s.guardFilterExpires.bandTable = s.bandTable := by
  unfold State.guardFilterExpires
  split
  · exact guardChange_bandTable s _
  · rfl

@[simp] theorem failLoad_bandTable (l : Load) (k : Nat) : (s.failLoad l k).bandTable = s.bandTable := by
  simp [State.failLoad]

@[simp] theorem loadContact_bandTable (new : Bool) (c : Nat) (h : HeadId) : (s.loadContact new c h).bandTable = s.bandTable := by
  unfold State.loadContact
  dsimp only
  repeat' split
  · rfl
  · rfl
  · exact filteredChange_bandTable _ h _
  · rfl

@[simp] theorem loadContacts_bandTable (b : ControlBlock) : (s.loadContacts b).bandTable = s.bandTable := by
  unfold State.loadContacts
  exact (foldl_view State.bandTable (fun s h => loadContact_bandTable s _ _ h) allHeads _).trans rfl

@[simp] theorem loadGuard_bandTable (b : ControlBlock) : (s.loadGuard b).bandTable = s.bandTable := by
  unfold State.loadGuard
  dsimp only
  split
  · exact guardChange_bandTable _ _
  · rfl

@[simp] theorem drain_bandTable : s.drain.bandTable = s.bandTable :=
  map_held_of_kept (fun x => by split <;> rfl) s.heads

@[simp] theorem abort_bandTable : s.abort.bandTable = s.bandTable := by
  simp [State.abort]

theorem faultDue_bandTable {t : State} (h : s.faultDue = some t) : t.bandTable = s.bandTable := by
  unfold State.faultDue at h
  split at h <;> cases h
  exact enterFaulted_bandTable _

end
end Sys2Proof.Machine
end

section
/-! PROOF. The two laws of the band tables (R62): CLA's writes keep them, and so does every command. -/

namespace Sys2Proof.Machine

/-! ### When a range may be written (R62) -/

/-- A side's heads are the heads that stand on it. -/
theorem mem_heads_iff (d : Side) (g : HeadId) : g ∈ d.heads ↔ g.side = d := by
  cases d <;> revert g <;> decide

/-- The order of two ranges on a side does not depend on which of the two is named first. -/
theorem rangesLawful_comm (i j : Nat) (r q : Range) : rangesLawful i j r q = rangesLawful j i q r := by
  rcases Nat.lt_trichotomy i j with h | rfl | h
  · simp [rangesLawful, h, Nat.lt_asymm h]
  · simp [rangesLawful]
  · simp [rangesLawful, h, Nat.lt_asymm h]

theorem heldLawful_comm (g h : HeadId) (r q : Option Range) : heldLawful g h r q = heldLawful h g q r := by
  cases r <;> cases q
  case some.some r q => simp only [heldLawful, rangesLawful_comm g.index, bne_comm (a := g.side)]
  all_goals rfl

@[simp] theorem heldLawful_none (g h : HeadId) (r : Option Range) : heldLawful g h r none = true := by
  cases r <;> rfl

/-- A range that a head may hold is real, and lawful beside what each other head holds. -/
theorem mayHold_lawful {s : State} {h : HeadId} {r : Range} (hm : s.mayHold h r = true) :
    rangeReal (some r) = true ∧ ∀ g, g ≠ h → heldLawful h g (some r) (s.head g).held = true := by
  simp only [State.mayHold, Bool.and_eq_true, List.all_eq_true, mem_heads_iff, Bool.or_eq_true, beq_iff_eq] at hm
  obtain ⟨hreal, hothers⟩ := hm
  refine ⟨hreal, fun g hg => ?_⟩
  by_cases hside : g.side = h.side
  · have hlaw := (hothers g hside).resolve_left hg
    cases hq : (s.head g).held with
    | none => rfl
    | some q =>
      rw [hq] at hlaw
      simp [heldLawful, hlaw]
  · cases (s.head g).held with
    | none => rfl
    | some q => simp [heldLawful, Ne.symm hside]

/-! ### Changes that keep the laws -/

section
variable {s t : State}

/-- Heads may lose their bands: the laws bind held ranges only. -/
theorem State.BandLaw.of_kept_or_freed (w : s.BandLaw)
    (hf : ∀ h, (t.head h).held = (s.head h).held ∨ (t.head h).held = none) : t.BandLaw := by
  obtain ⟨hreal, hpair⟩ := w
  constructor
  · intro h
    rcases hf h with e | e <;> rw [e]
    · exact hreal h
    · rfl
  · intro g h hgh
    rcases hf h with e | e <;> rw [e]
    · rcases hf g with e | e <;> rw [e]
      · exact hpair g h hgh
      · rfl
    · exact heldLawful_none g h _

/-- The laws look at the band table only. -/
theorem State.BandLaw.of_bandTable (w : s.BandLaw) (e : t.bandTable = s.bandTable) : t.BandLaw :=
  w.of_kept_or_freed fun h => .inl (by simpa [State.head] using congrArg (·.get h) e)

theorem State.BandLaw.of_heads (w : s.BandLaw) (e : t.heads = s.heads) : t.BandLaw :=
  w.of_bandTable (congrArg (PerHead.map Head.held) e)

/-- A head's bands stay or go. -/
theorem State.BandLaw.modHead_freed (w : s.BandLaw) {h : HeadId} {f : Head → Head}
    (hf : (f (s.head h)).held = (s.head h).held ∨ (f (s.head h)).held = none) : (s.modHead h f).BandLaw := by
  refine w.of_kept_or_freed fun g => ?_
  rw [State.head_modHead]
  split
  case isTrue e => exact e ▸ hf
  case isFalse => exact .inl rfl

/-- A lawful range given to a head. -/
theorem State.BandLaw.hold (w : s.BandLaw) {h : HeadId} {r : Range} (hm : s.mayHold h r = true) :
    (s.modHead h fun x => { x with held := some r }).BandLaw := by
  obtain ⟨hreal, hpair⟩ := w
  obtain ⟨hreal', hpair'⟩ := mayHold_lawful hm
  constructor
  · intro g
    rw [State.head_modHead]
    split
    · exact hreal'
    · exact hreal g
  · intro g k hgk
    rw [State.head_modHead, State.head_modHead]
    split
    case isTrue hg =>
      subst hg
      rw [if_neg hgk.symm]
      exact hpair' k hgk.symm
    case isFalse hg =>
      split
      case isTrue hk =>
        subst hk
        rw [heldLawful_comm]
        exact hpair' g hg
      case isFalse => exact hpair g k hgk

theorem State.BandLaw.writeBands (w : s.BandLaw) (h : HeadId) (r : Option Range) : (s.writeBands h r).BandLaw := by
  cases r with
  | none =>
    refine w.of_kept_or_freed fun g => ?_
    rw [State.writeBands, State.head_modHead]
    split
    · exact .inr rfl
    · exact .inl rfl
  | some r =>
    unfold State.writeBands
    dsimp only
    split
    case isTrue hm => exact w.hold hm
    case isFalse => exact w

theorem State.BandLaw.shrinkTo (w : s.BandLaw) (h : HeadId) (x : Int) : (s.shrinkTo h x).BandLaw :=
  (w.writeBands h _).of_heads rfl

theorem State.BandLaw.reserveAndGo (w : s.BandLaw) (h : HeadId) (r : Range) (x y : Int) : (s.reserveAndGo h r x y).BandLaw := by
  unfold State.reserveAndGo
  split
  · exact (w.writeBands h _).of_bandTable (requestOrder_bandTable _ h _)
  · exact w

/-- Several operations in a row keep the laws when each does. -/
theorem State.BandLaw.foldl {α : Type} {f : State → α → State} (w : s.BandLaw)
    (hf : ∀ (u : State) (a : α), u.BandLaw → (f u a).BandLaw) (l : List α) : (l.foldl f s).BandLaw :=
  List.foldlRecOn l f w fun u hu a _ => hf u a hu

/-! ### Yields, grants and evaluations (R67-R78) -/

theorem State.BandLaw.issueYields (w : s.BandLaw) (p : Pos) (ys : List Yield) : (s.issueYields p ys).BandLaw := by
  refine w.foldl (fun u y hu => ?_) ys
  split
  · exact (hu.of_heads (markYield_heads u p y.head .out)).reserveAndGo _ _ _ _
  · exact hu

theorem State.BandLaw.launch (w : s.BandLaw) (p : Pos) (ms : List MainPart) : (s.launch p ms).BandLaw :=
  State.BandLaw.foldl (s := s.modEntry p _) w (fun u m hu =>
    State.BandLaw.reserveAndGo (s := u.modPoint p m.point _) hu m.head m.sweep m.target.1 m.target.2) ms

theorem State.BandLaw.yieldReached (w : s.BandLaw) (p : Pos) (h : HeadId) : (s.yieldReached p h).BandLaw := by
  have hmarked : (s.markYield p h .reached).BandLaw := w.of_heads (markYield_heads s p h _)
  unfold State.yieldReached
  dsimp only
  repeat' split
  · exact hmarked
  · exact hmarked
  · exact (hmarked.launch p _).of_heads (groupDissolved_heads _ _)
  · exact hmarked.issueYields p _

theorem State.BandLaw.grant (w : s.BandLaw) (p : Pos) (plan : Plan) : (s.grant p plan).BandLaw := by
  have hmains : (plan.mains.foldl (fun s m => s.assignMain p m) s).BandLaw :=
    w.foldl (fun u m hu => hu.of_bandTable (assignMain_bandTable u p m)) _
  unfold State.grant
  dsimp only
  split
  · exact hmains.launch p _
  · have hyields := hmains.foldl (fun u y hu => hu.of_bandTable (assignYield_bandTable u p y)) plan.yields
    exact State.BandLaw.issueYields (s := State.modEntry _ p _) hyields p _

theorem State.BandLaw.examine (w : s.BandLaw) (d : Side) (p : Pos) : (s.examine d p).BandLaw := by
  unfold State.examine
  dsimp only
  repeat' split
  · exact w
  · exact w
  · exact w.of_heads (endWaiting_heads s _ _)
  · exact w
  · exact w
  · exact (w.grant p _).of_heads (callEval_heads _ _)
  · exact w.grant p _

theorem State.BandLaw.evaluate (w : s.BandLaw) (d : Side) : (s.evaluate d).BandLaw :=
  w.foldl (fun _ p hu => hu.examine d p) _

/-! ### Replies that rewrite bands (R44, R46, R57, R80, R98, R111) -/

theorem State.BandLaw.tryRetouch (n : Nat) (w : s.BandLaw) (h : HeadId) (p : Pos) (m : PointName) :
    (State.tryRetouch n s h p m).BandLaw := by
  induction n generalizing s with
  | zero => exact w
  | succ n ih =>
    unfold State.tryRetouch
    dsimp only
    repeat' split
    · exact w
    · exact State.BandLaw.reserveAndGo (s := s.modPoint p m _) w h _ _ _
    · exact ih (s := s.modPoint p m _) w
    · exact w.of_bandTable ((pointFail_bandTable _ _ _ _).trans (releaseHead_bandTable s h))

/-- A head takes a position and its footprint there. -/
theorem State.BandLaw.place (w : s.BandLaw) (h : HeadId) (x y : Int) :
    ((s.modHead h fun q => { q with x := x, y := y }).shrinkTo h x).BandLaw :=
  (w.of_bandTable (modHead_bandTable s rfl)).shrinkTo h x

theorem State.BandLaw.releaseHead (w : s.BandLaw) (h : HeadId) : (s.releaseHead h).BandLaw :=
  w.of_bandTable (releaseHead_bandTable s h)

theorem State.BandLaw.arrive (w : s.BandLaw) (h : HeadId) (x y : Int) : (s.arrive h x y).BandLaw := by
  have hplaced := w.place h x y
  unfold State.arrive
  dsimp only
  split
  · exact hplaced.of_bandTable (descendHead_bandTable _ h _ _)
  · split
    · exact (hplaced.releaseHead h).yieldReached _ h
    · exact (hplaced.releaseHead h).of_heads (parkMoveEnded_heads _ h _)
    · exact hplaced.releaseHead h

theorem State.BandLaw.moveRefused (w : s.BandLaw) (h : HeadId) : (s.moveRefused h).BandLaw := by
  have hplaced := (w.shrinkTo h (s.head h).x).releaseHead h
  unfold State.moveRefused
  dsimp only
  split
  · exact hplaced.of_bandTable (pointFail_bandTable _ _ _ _)
  · exact hplaced.of_bandTable (failYield_bandTable _ _ _)
  · exact hplaced.of_heads (parkMoveEnded_heads _ _ _)
  · exact hplaced

/-- A head that fails a check of its reply: the record, and LOST. -/
theorem submit_loseHead_bandTable (s : State) (k : FaultKind) (h : HeadId) (c : Nat) (d : Word) :
    ((s.submitHead k h c d).loseHead h).bandTable = s.bandTable := by
  simp

theorem State.BandLaw.reachedReply (w : s.BandLaw) (h : HeadId) (o : SentOrder) (a1 a2 : Word) :
    (s.reachedReply h o a1 a2).BandLaw := by
  unfold State.reachedReply
  dsimp only
  repeat' split
  · exact w.arrive h _ _
  · exact w
  · exact w.of_bandTable (submit_loseHead_bandTable s _ h _ _)
  · exact w.of_heads (submitHead_heads s _ h _ _)

theorem State.BandLaw.raisedReply (w : s.BandLaw) (h : HeadId) : (s.raisedReply h).BandLaw := by
  unfold State.raisedReply
  repeat' split
  · exact w.tryRetouch 4 h _ _
  · exact w.releaseHead h
  · exact w.releaseHead h
  · exact w

theorem State.BandLaw.homedReply (w : s.BandLaw) (h : HeadId) (a1 a2 : Word) : (s.homedReply h a1 a2).BandLaw := by
  unfold State.homedReply
  dsimp only
  repeat' split
  · exact (w.place h _ _).releaseHead h
  · exact w.of_bandTable (submit_loseHead_bandTable s _ h _ _)
  · exact w

theorem State.BandLaw.homingHalted (w : s.BandLaw) (h : HeadId) : (s.homingHalted h).BandLaw :=
  (w.writeBands h none).of_bandTable (modHead_bandTable _ rfl)

theorem State.BandLaw.haltAccepted (w : s.BandLaw) (h : HeadId) (x y : Int) : (s.haltAccepted h x y).BandLaw := by
  unfold State.haltAccepted
  split
  · exact (w.place h _ _).releaseHead h
  · exact w.of_bandTable (submit_loseHead_bandTable s _ h _ _)

theorem State.BandLaw.haltedReply (w : s.BandLaw) (h : HeadId) (t : SentHalt) (a1 a2 : Word) :
    (s.haltedReply h t a1 a2).BandLaw := by
  unfold State.haltedReply
  dsimp only
  split
  · split
    · split
      · exact w.haltAccepted h _ _
      · exact w
    · have hrecord : (if (s.head h).state = .lost ∨ t.contact = true then s else s.submitHead .positionError h 2 a1).BandLaw := by
        split
        · exact w
        · exact w.of_heads (submitHead_heads s _ h _ _)
      split
      · exact hrecord.of_bandTable (loseHead_bandTable _ h)
      · exact hrecord
  · split
    · exact w.homingHalted h
    · exact w

theorem State.BandLaw.refusedReply (w : s.BandLaw) (h : HeadId) (k : OrderKind) (c : Word) :
    (s.refusedReply h k c).BandLaw := by
  have hrecord : (s.submitHead .driveFault h 1 (driveDetail k c)).BandLaw := w.of_heads (submitHead_heads s _ h _ _)
  unfold State.refusedReply
  dsimp only
  split
  · exact hrecord.of_bandTable (haltLost_bandTable _ h)
  · split
    · split
      · exact hrecord.moveRefused h
      · exact hrecord.of_bandTable (descendRefused_bandTable _ h)
      · exact hrecord.of_bandTable (raiseRefused_bandTable _ h)
      · exact hrecord.of_bandTable (loseHead_bandTable _ h)
      · exact hrecord
    · exact hrecord

theorem State.BandLaw.orderReply (w : s.BandLaw) (h : HeadId) (o : SentOrder) (k : ReplyKind) (a1 a2 : Word) :
    (s.orderReply h o k a1 a2).BandLaw := by
  cases k with
  | reached => exact w.reachedReply h o a1 a2
  | touched => exact w.of_bandTable (touchedReply_bandTable s h o a1)
  | bottomed => exact w.of_bandTable (bottomedReply_bandTable s h)
  | raised => exact w.raisedReply h
  | homed => exact w.homedReply h a1 a2
  | halted => exact w
  | refused => exact w.refusedReply h o.kind a1
  | fault => exact w.of_bandTable (faultReply_bandTable s h o.kind a1)

theorem State.BandLaw.haltReply (w : s.BandLaw) (h : HeadId) (t : SentHalt) (k : ReplyKind) (a1 a2 : Word) :
    (s.haltReply h t k a1 a2).BandLaw := by
  unfold State.haltReply
  split
  · exact w.haltedReply h t a1 a2
  · exact w.refusedReply h .halt a1
  · exact w.of_bandTable (faultReply_bandTable s h .halt a1)
  · exact w

/-- What ends every taken reply: a LOST head's assignment, and the order held for the lane. -/
theorem State.BandLaw.afterReply (w : s.BandLaw) (l : HeadId) : ((s.settleLost l).issueHeld l).BandLaw :=
  w.of_bandTable ((issueHeld_bandTable _ l).trans (settleLost_bandTable s l))

theorem State.BandLaw.takeReply (w : s.BandLaw) (l : HeadId) (k : ReplyKind) (tag : Byte) (a1 a2 : Word) :
    (s.takeReply l k tag a1 a2).BandLaw := by
  have hretired : (s.retireLane l).BandLaw := w.of_heads (retireLane_heads s l)
  have hlate (u : Bool) : (s.lateReply l k tag u).BandLaw := w.of_heads (lateReply_heads s l k tag u)
  unfold State.takeReply
  repeat' split
  · exact hlate _
  · exact (hretired.orderReply l _ k a1 a2).afterReply l
  · exact hlate _
  · exact hlate _
  · exact (hretired.haltReply l _ k a1 a2).afterReply l
  · exact hlate _
  · exact hlate _

theorem State.BandLaw.receiveReply (w : s.BandLaw) (l : HeadId) (k : ReplyKind) (tag : Byte) (a1 a2 : Word) :
    (s.receiveReply l k tag a1 a2).BandLaw := by
  have hhunting : (s.setReceiver l .hunting).BandLaw := w.of_heads (setReceiver_heads s l _)
  unfold State.receiveReply
  repeat' split
  · exact w
  · exact hhunting
  · exact hhunting.takeReply l k tag a1 a2

theorem State.BandLaw.receiveFrame (w : s.BandLaw) (l : HeadId) (f : BitVec 96) : (s.receiveFrame l f).BandLaw := by
  unfold State.receiveFrame
  repeat' split
  · exact w
  · exact w
  · exact w.of_heads (discardFrame_heads s l _ _)
  · exact w.of_heads (discardFrame_heads s l _ _)
  · exact w.receiveReply l _ _ _ _

/-! ### HOME_SIDE and PARK (R56, R60) -/

/-- HOME_SIDE empties the bands of its side's heads. -/
theorem State.BandLaw.startHoming (w : s.BandLaw) (p : Pos) (d : Side) : (s.startHoming p d).BandLaw := by
  unfold State.startHoming
  dsimp only
  refine State.BandLaw.foldl ?_ (fun u h hu => hu.of_bandTable (requestOrder_bandTable u h .home)) d.heads
  refine State.BandLaw.of_heads ?_ (callEval_heads _ d)
  refine State.BandLaw.foldl ?_ (fun u h hu => hu.modHead_freed (.inr rfl)) d.heads
  exact w

theorem State.BandLaw.runHeadAction (w : s.BandLaw) (p : Pos) (a : HeadAction) : (s.runHeadAction p a).BandLaw := by
  cases a with
  | homeSide d => exact w.startHoming p d
  | enable h => exact w.of_bandTable (by simp [State.runHeadAction, State.head])
  | disable h => exact w.of_bandTable (by simp [State.runHeadAction, State.head])
  | resetWear h => exact w.of_bandTable (by simp [State.runHeadAction, State.head])

theorem State.BandLaw.parkGo (w : s.BandLaw) (k : Park) (h : HeadId) (rest : List HeadId) (r : Range) :
    (s.parkGo k h rest r).BandLaw := by
  have hassigned : (State.modHead { s with park := some { k with rest := rest, moved := true, current := some h } } h
      fun x => { x with assigned := some k.pos, serving := some .park }).BandLaw :=
    w.of_bandTable (modHead_bandTable (s := { s with park := _ }) rfl)
  exact hassigned.reserveAndGo h r _ _

theorem State.BandLaw.parkStep (w : s.BandLaw) (h : s.parkStep = some t) : t.BandLaw := by
  obtain ⟨k, -, h⟩ := Option.bind_eq_some_iff.mp h
  repeat' split at h
  all_goals cases h
  · exact w
  · exact w
  · exact w
  · exact w
  · exact w.parkGo k _ _ _
  · exact w
  · exact w.of_heads (finishPark_heads s _ _)

theorem State.BandLaw.activate (w : s.BandLaw) (e : Entry) (k : StepKind) : (s.activate e k).BandLaw := by
  have hfinished (v : Verdict) : (s.finishStep e.pos v).BandLaw := w.of_heads (finishStep_heads s e.pos v)
  unfold State.activate
  repeat' split
  · exact w.of_heads (runFrame_heads s e)
  · exact w.runHeadAction e.pos _
  · exact hfinished _
  · exact w.of_heads (startPark_heads s e.pos _)
  · exact hfinished _
  · exact w.of_heads (startReload_heads s e.pos _)
  · exact w.of_heads (runMark_heads s e)
  · exact w

theorem State.BandLaw.activateOne (w : s.BandLaw) (h : s.activateOne = some t) : t.BandLaw := by
  unfold State.activateOne at h
  split at h
  · obtain ⟨ek, -, rfl⟩ := Option.map_eq_some_iff.mp h
    exact w.activate ek.1 ek.2
  · cases h

/-! ### LOADING (R54, R167) -/

/-- A change of the band geometry empties a head's bands; nothing else does (R54). -/
theorem Head.loaded_held (x : Head) (b : ControlBlock) (h : HeadId) (moved : Bool) :
    (x.loaded b h moved).held = x.held ∨ (x.loaded b h moved).held = none := by
  unfold Head.loaded
  cases moved
  · exact .inl rfl
  · exact .inr rfl

theorem State.BandLaw.loadHeads (w : s.BandLaw) (b : ControlBlock) : (s.loadHeads b).BandLaw := by
  unfold State.loadHeads
  dsimp only
  refine State.BandLaw.foldl ?_ (fun u h hu => ?_) allHeads
  · split
    · exact w
    · exact w
  · exact (hu.modHead_freed (Head.loaded_held _ b h _)).of_bandTable (judgeWorn_bandTable _ h _)

theorem State.BandLaw.completeLoad (w : s.BandLaw) (l : Load) : (s.completeLoad l).BandLaw := by
  have hheads := State.BandLaw.loadHeads
    (s := (s.modBus fun u => { u with cba := l.cba, window := loadWindow l.block }).loadLog l.block) w l.block
  exact hheads.of_bandTable (by simp [State.completeLoad])

theorem State.BandLaw.judgeLoad (w : s.BandLaw) : s.judgeLoad.BandLaw := by
  unfold State.judgeLoad
  repeat' split
  · exact w
  · exact w
  · exact w.of_bandTable (failLoad_bandTable s _ _)
  · exact w.completeLoad _
  · exact w

theorem State.BandLaw.loadReturn (w : s.BandLaw) (id i : Nat) (d : Block) : (s.loadReturn id i d).BandLaw := by
  have hread : ((s.issueAhead s.bus.writes.length).dropRead id).BandLaw := w.of_heads (issueAhead_heads s _)
  exact State.BandLaw.judgeLoad (s := State.modRun _ _) hread

theorem State.BandLaw.resetRaiseSent (w : s.BandLaw) (l : HeadId) : (s.resetRaiseSent l).BandLaw := by
  unfold State.resetRaiseSent
  split
  · exact State.BandLaw.judgeLoad (s := s.setLane l _) w
  · exact w

/-! ### Resets (R176) -/

/-- No head holds anything after a reset, and so it is in the reset state. -/
theorem softReset_bandLaw (s : State) : s.softReset.BandLaw := State.reset_bandLaw.of_heads rfl

theorem deviceReset_bandLaw (s : State) (c : ResetCause) : (s.deviceReset c).BandLaw := State.reset_bandLaw.of_heads rfl

/-! ### What follows an event, and the event -/

theorem State.BandLaw.evaluateDue (w : s.BandLaw) (d : Side) : (s.evaluateDue d).BandLaw :=
  State.BandLaw.evaluate (s := s.modDue _) w d

theorem State.BandLaw.evalDue (w : s.BandLaw) (h : s.evalDue = some t) : t.BandLaw := by
  unfold State.evalDue at h
  split at h <;> cases h
  · exact w.evaluateDue .top
  · exact w.evaluateDue .bottom
  · exact (w.of_heads (choose_heads s 2)).evaluateDue _

/-- What follows is what one of the twelve conditions calls for. -/
theorem followUp_cases (h : s.followUp = some t) :
    s.faultDue = some t ∨ s.evalDue = some t ∨ s.liftingEnd = some t ∨ s.homingEnd = some t ∨ s.parkStep = some t
      ∨ s.engineTake = some t ∨ s.retireDue = some t ∨ s.planEndDue = some t ∨ s.activateOne = some t
      ∨ s.dispatchOne = some t ∨ s.fetchStep = some t ∨ s.drainEnd = some t := by
  unfold State.followUp at h
  repeat' split at h
  all_goals simp_all

theorem State.BandLaw.followUp (w : s.BandLaw) (h : s.followUp = some t) : t.BandLaw := by
  rcases followUp_cases h with h | h | h | h | h | h | h | h | h | h | h | h
  · exact w.of_bandTable (faultDue_bandTable s h)
  · exact w.evalDue h
  · exact w.of_heads (liftingEnd_heads s h)
  · exact w.of_heads (homingEnd_heads s h)
  · exact w.parkStep h
  · exact w.of_heads (engineTake_heads s h)
  · exact w.of_heads (retireDue_heads s h)
  · exact w.of_heads (planEndDue_heads s h)
  · exact w.activateOne h
  · exact w.of_heads (dispatchOne_heads s h)
  · exact w.of_heads (fetchStep_heads s h)
  · exact w.of_heads (drainEnd_heads s h)

theorem State.BandLaw.settle (w : s.BandLaw) (n : Nat) : (settle n s).BandLaw := by
  induction n generalizing s with
  | zero => exact w
  | succ n ih =>
    unfold Machine.settle
    split
    · exact w
    · exact ih (w.followUp ‹_›)

/-- An event keeps the laws when its own effect does: what follows keeps them. -/
theorem State.BandLaw.event {f : State → State} (w : s.BandLaw) (hf : ∀ u : State, u.BandLaw → (f u).BandLaw) :
    (s.event f).BandLaw := by
  have hbegun : s.begin.BandLaw := w.of_heads (begin_heads s)
  unfold State.event
  split
  · exact w
  · exact ((hf _ hbegun).settle followUps).of_heads (finish_heads _)

/-- An event whose own effect leaves the band table. -/
theorem State.BandLaw.event_of_bandTable {f : State → State} (w : s.BandLaw) (hf : ∀ u : State, (f u).bandTable = u.bandTable) :
    (s.event f).BandLaw :=
  w.event fun u hu => hu.of_bandTable (hf u)

/-- An event whose own effect leaves the heads. -/
theorem State.BandLaw.event_of_heads {f : State → State} (w : s.BandLaw) (hf : ∀ u : State, (f u).heads = u.heads) :
    (s.event f).BandLaw :=
  w.event fun u hu => hu.of_heads (hf u)

theorem State.BandLaw.plain {f : State → State} (w : s.BandLaw) (hf : ∀ u : State, (f u).bandTable = u.bandTable) :
    (s.plain f).BandLaw := by
  unfold State.plain
  split
  · exact w
  · exact w.of_bandTable (hf s.begin)

/-! ### The registers (R163-R176) -/

theorem State.BandLaw.refuse (w : s.BandLaw) : s.refuse.BandLaw := w.plain (by simp)

theorem State.BandLaw.commandStart (w : s.BandLaw) : s.commandStart.BandLaw := by
  unfold State.commandStart
  split
  · refine w.event_of_bandTable fun u => ?_
    unfold State.startLoading
    dsimp only
    split <;> simp [State.failLoadUnread]
  · exact w.refuse

theorem State.BandLaw.commandStop (w : s.BandLaw) : s.commandStop.BandLaw := by
  unfold State.commandStop
  split
  · exact w.event_of_bandTable drain_bandTable
  · exact w.refuse

theorem State.BandLaw.commandAbort (w : s.BandLaw) : s.commandAbort.BandLaw := by
  unfold State.commandAbort
  split
  · exact w.event_of_bandTable abort_bandTable
  · exact w.refuse

theorem State.BandLaw.commandResume (w : s.BandLaw) : s.commandResume.BandLaw := by
  unfold State.commandResume
  split
  · exact w.event_of_heads fun u => resumeTo_heads u _
  · exact w.refuse

theorem State.BandLaw.commandClearOverflow (w : s.BandLaw) : s.commandClearOverflow.BandLaw := w.plain fun _ => rfl

theorem State.BandLaw.commandReset (w : s.BandLaw) : s.commandReset.BandLaw := by
  unfold State.commandReset
  split
  · exact w
  · exact softReset_bandLaw s

theorem State.BandLaw.commandWrite (w : s.BandLaw) (v : Word) : (s.commandWrite v).BandLaw := by
  unfold State.commandWrite
  split
  · exact w.commandStart
  · exact w.commandStop
  · exact w.commandAbort
  · exact w.commandResume
  · exact w.commandClearOverflow
  · exact w.commandReset
  · exact w.refuse

theorem State.BandLaw.writeCbaLo (w : s.BandLaw) (v : Word) : (s.writeCbaLo v).BandLaw := by
  unfold State.writeCbaLo
  split
  · exact w.plain fun _ => rfl
  · exact w

theorem State.BandLaw.writeCbaHi (w : s.BandLaw) (v : Word) : (s.writeCbaHi v).BandLaw := by
  unfold State.writeCbaHi
  split
  · exact w.plain fun _ => rfl
  · exact w

theorem State.BandLaw.writeEvents (w : s.BandLaw) (v : Word) : (s.writeEvents v).BandLaw := w.plain (by simp)

theorem State.BandLaw.writeEnables (w : s.BandLaw) (v : Word) : (s.writeEnables v).BandLaw := w.plain (by simp)

theorem State.BandLaw.registerWrite (w : s.BandLaw) (o : BitVec 12) (n : Nat) (v : BitVec 64) :
    (s.registerWrite o n v).BandLaw := by
  unfold State.registerWrite
  repeat' split
  · exact w
  · exact w.writeCbaLo _
  · exact w.writeCbaHi _
  · exact w.commandWrite _
  · exact w.writeEvents _
  · exact w.writeEnables _
  · exact w

/-! ### Host accesses (R144, R146, R149, R183) -/

theorem headerRead_heads (s : State) (r : HostRead) (poll : Bool) (d : Block) : (s.headerRead r poll d).heads = s.heads := by
  unfold State.headerRead
  dsimp only
  split
  · exact headerReturn_heads _ _ _
  · rfl

theorem recordRead_heads (s : State) (r : HostRead) (d : Block) : (s.recordRead r d).heads = s.heads := by
  unfold State.recordRead
  split
  · exact recordReturn_heads s _ _
  · rfl

theorem logRead_heads (s : State) (id : Nat) (v : Word) : (s.logRead id v).heads = s.heads := by
  unfold State.logRead
  dsimp only
  split
  · exact finishReread_heads _ _
  · rfl

theorem readError_bandTable (s : State) (r : HostRead) : (s.readError r).bandTable = s.bandTable := by
  unfold State.readError
  dsimp only
  split
  · simp [State.failLoadUnread]
  · split <;> simp

theorem stalled_heads (s : State) (p : Pos) : (s.stalled p).heads = s.heads := by
  unfold State.stalled
  repeat' split
  · rfl
  · exact (endWaiting_heads _ _ _).trans (submit_heads s _)
  · rfl

/-! ### Commands and steps -/

/-- An outcome whose next state keeps the two laws of R62. -/
def BandLawAfter (o : Host.Outcome State Fault Refusal) : Prop := ∀ t, o = .next t → t.BandLaw

theorem bandLawAfter_next (w : t.BandLaw) : BandLawAfter (.next t) := by
  rintro _ ⟨⟩
  exact w

theorem State.BandLaw.loadingReadReturn (w : s.BandLaw) (id : Nat) (d : Block) :
    BandLawAfter (execLoadingReadReturn id d s) := by
  unfold execLoadingReadReturn
  split
  · exact bandLawAfter_next (w.event fun u hu => hu.loadReturn id _ d)
  · exact bandLawAfter_next w

theorem State.BandLaw.headerReadReturn (w : s.BandLaw) (id : Nat) (d : Block) :
    BandLawAfter (execHeaderReadReturn id d s) := by
  unfold execHeaderReadReturn
  repeat' split
  · exact bandLawAfter_next (w.event_of_heads fun u => headerRead_heads u _ _ d)
  · exact bandLawAfter_next w
  · exact bandLawAfter_next w

theorem State.BandLaw.recordReadReturn (w : s.BandLaw) (id : Nat) (d : Block) :
    BandLawAfter (execRecordReadReturn id d s) := by
  unfold execRecordReadReturn
  repeat' split
  · exact bandLawAfter_next (w.event_of_heads fun u => recordRead_heads u _ d)
  · exact bandLawAfter_next w
  · exact bandLawAfter_next w

theorem State.BandLaw.reloadReadReturn (w : s.BandLaw) (id : Nat) (d : Block) :
    BandLawAfter (execReloadReadReturn id d s) := by
  unfold execReloadReadReturn
  split
  · exact bandLawAfter_next (w.event_of_bandTable fun u => reloadReturn_bandTable (u.dropRead id) id _ d)
  · exact bandLawAfter_next w

theorem State.BandLaw.logRereadReturn (w : s.BandLaw) (id : Nat) (v : Word) :
    BandLawAfter (execLogRereadReturn id v s) := by
  unfold execLogRereadReturn
  split
  · exact bandLawAfter_next (w.event_of_heads fun u => logRead_heads u id v)
  · exact bandLawAfter_next w

theorem State.BandLaw.readErrorCompletion (w : s.BandLaw) (id : Nat) : BandLawAfter (execReadErrorCompletion id s) := by
  unfold execReadErrorCompletion
  split
  · exact bandLawAfter_next (w.event_of_bandTable fun u => readError_bandTable u _)
  · exact bandLawAfter_next w

theorem State.BandLaw.accessErrorTimeout (w : s.BandLaw) (id : Nat) : BandLawAfter (execAccessErrorTimeout id s) := by
  unfold execAccessErrorTimeout
  repeat' split
  · exact bandLawAfter_next (w.event_of_bandTable fun u => readError_bandTable u _)
  · exact bandLawAfter_next w
  · exact bandLawAfter_next w

theorem State.BandLaw.guardInput (w : s.BandLaw) (b : Bool) : BandLawAfter (execGuardInputChange b s) := by
  refine bandLawAfter_next ?_
  repeat' split
  · exact w.of_heads (heldGuard_heads s b)
  · exact w.event_of_bandTable fun u => guardSample_bandTable u b
  · exact w.plain fun u => guardSample_bandTable u b

theorem State.BandLaw.contactSense (w : s.BandLaw) (h : HeadId) (b : Bool) : BandLawAfter (execContactSenseChange h b s) := by
  refine bandLawAfter_next ?_
  repeat' split
  · exact w.of_heads (heldContact_heads s h b)
  · exact w.event_of_bandTable fun u => contactSample_bandTable u h b
  · exact w.plain fun u => contactSample_bandTable u h b

/-- Every command keeps the laws. -/
theorem State.BandLaw.exec (w : s.BandLaw) (c : Instr) : BandLawAfter (exec c s) := by
  cases c with
  | start => exact bandLawAfter_next w.commandStart
  | stop => exact bandLawAfter_next w.commandStop
  | abort => exact bandLawAfter_next w.commandAbort
  | resume => exact bandLawAfter_next w.commandResume
  | clearOverflow => exact bandLawAfter_next w.commandClearOverflow
  | reset => exact bandLawAfter_next w.commandReset
  | unknownCommand v => exact bandLawAfter_next (w.commandWrite v)
  | cbaLoWrite v => exact bandLawAfter_next (w.writeCbaLo v)
  | cbaHiWrite v => exact bandLawAfter_next (w.writeCbaHi v)
  | eventsWrite v => exact bandLawAfter_next (w.writeEvents v)
  | eventEnableWrite v => exact bandLawAfter_next (w.writeEnables v)
  | registerWriteOther o n v => exact bandLawAfter_next (w.registerWrite o n v)
  | deviceReset c => exact bandLawAfter_next (deviceReset_bandLaw s c)
  | msiEnableChange b => exact bandLawAfter_next (t := s.modBus _) w
  | guardFilterExpiry => exact bandLawAfter_next (w.event_of_bandTable guardFilterExpires_bandTable)
  | contactFilterExpiry h => exact bandLawAfter_next (w.event_of_bandTable fun u => contactFilterExpires_bandTable u h)
  | landingWindowExpiry h => exact bandLawAfter_next (w.event_of_bandTable fun u => bounce_bandTable u h)
  | settleExpiry => exact bandLawAfter_next (w.event_of_heads settled_heads)
  | adcSample v => exact bandLawAfter_next (w.event_of_bandTable fun u => sample_bandTable u v)
  | complianceFlag => exact bandLawAfter_next (w.event_of_bandTable compliance_bandTable)
  | chargeCrossing c => exact bandLawAfter_next (w.event_of_bandTable fun u => crossing_bandTable u c)
  | chargeTimeout => exact bandLawAfter_next (w.event_of_bandTable fun u => endCharge_bandTable u none)
  | reached l tag x y => exact bandLawAfter_next (w.event fun u hu => hu.receiveReply l .reached tag x y)
  | touched l tag d => exact bandLawAfter_next (w.event fun u hu => hu.receiveReply l .touched tag d 0)
  | bottomed l tag => exact bandLawAfter_next (w.event fun u hu => hu.receiveReply l .bottomed tag 0 0)
  | raised l tag => exact bandLawAfter_next (w.event fun u hu => hu.receiveReply l .raised tag 0 0)
  | homed l tag x y => exact bandLawAfter_next (w.event fun u hu => hu.receiveReply l .homed tag x y)
  | halted l tag x y => exact bandLawAfter_next (w.event fun u hu => hu.receiveReply l .halted tag x y)
  | refused l tag c => exact bandLawAfter_next (w.event fun u hu => hu.receiveReply l .refused tag c 0)
  | fault l tag c => exact bandLawAfter_next (w.event fun u hu => hu.receiveReply l .fault tag c 0)
  | damagedFrame l f => exact bandLawAfter_next (w.event fun u hu => hu.receiveFrame l f)
  | frameGapTimeout l => exact bandLawAfter_next (w.event_of_heads fun u => frameGap_heads u l)
  | receiverIdleExpiry l => exact bandLawAfter_next (w.plain fun u => by simp)
  | orderTimeout l => exact bandLawAfter_next (w.event_of_bandTable fun u => expireOrder_bandTable u l)
  | pendingHaltSend l => exact bandLawAfter_next (w.event_of_bandTable fun u => sendPendingHalt_bandTable u l)
  | softResetRaiseSent l => exact bandLawAfter_next (w.event fun u hu => hu.resetRaiseSent l)
  | loadingReadReturn id d => exact w.loadingReadReturn id d
  | headerReadReturn id d => exact w.headerReadReturn id d
  | recordReadReturn id d => exact w.recordReadReturn id d
  | reloadReadReturn id d => exact w.reloadReadReturn id d
  | logRereadReturn id v => exact w.logRereadReturn id v
  | readErrorCompletion id => exact w.readErrorCompletion id
  | accessErrorTimeout id => exact w.accessErrorTimeout id
  | pollTimerExpiry => exact bandLawAfter_next (w.event_of_heads pollExpires_heads)
  | stallTimerExpiry q i => exact bandLawAfter_next (w.event_of_heads fun u => stalled_heads u ⟨q, i⟩)
  | resultStatusIssued => exact bandLawAfter_next (w.event_of_heads fun u => issueThrough_heads u _)
  | markValueIssued => exact bandLawAfter_next (w.event_of_heads fun u => issueThrough_heads u _)
  | contactSenseChange h b => exact w.contactSense h b
  | guardInputChange b => exact w.guardInput b
  | laneStartByte l => exact bandLawAfter_next (w.plain fun u => by simp)
  | resetNRelease => exact bandLawAfter_next (t := s.modRun _) w

/-- With no command waiting the part takes one of its own events, or a tick (R177). -/
theorem State.BandLaw.idle (w : s.BandLaw) : BandLawAfter (idle s) := by
  unfold Machine.idle
  repeat' split
  · exact bandLawAfter_next w
  · exact bandLawAfter_next (w.of_heads (tick_heads s))
  · exact (w.of_heads (choose_heads s _)).exec _

end

/-- Settles O5: a step is a command on the queue's rest, or what the part does by itself. -/
theorem bandLawKept : Obligations.BandLawKept := by
  intro s t w h
  unfold step at h
  split at h
  next c cs _ => exact State.BandLaw.exec (s := { s with pending := cs }) w c t h
  next => exact w.idle t h

end Sys2Proof.Machine
end

section
/-! PROOF. The sampled levels of GUARD and of the contact inputs: with a filter code the filter timer, without one the filter's
expiry at once (R103, R172). -/

namespace Sys2Proof.Machine

section
variable {s t : State}

/-! ### Two events with one effect -/

/-- Two events that begin differently and take the same effect end alike. -/
theorem event_eq_of_effect {f g : State → State} (hs : s.run.resetHeld = false) (ht : t.run.resetHeld = false)
    (he : f s.begin = g t.begin) : s.event f = t.event g := by
  simp [State.event, hs, ht, he]

/-! ### The commands of the two inputs, RESET_N high (R176) -/

/-- With a filter code nothing follows the sample of the GUARD pin. -/
theorem exec_guardInputChange_filtered (hr : s.run.resetHeld = false) (hc : s.run.guardCode ≠ 0) (high : Bool) :
    exec (.guardInputChange high) s = .next (s.begin.guardSample high).finish := by
  rw [← plain_eq (f := fun u => u.guardSample high) hr]
  simp [exec, execGuardInputChange, hr, hc]

/-- With filter code 0 the sample of the GUARD pin is an event that others may follow. -/
theorem exec_guardInputChange_unfiltered (hr : s.run.resetHeld = false) (hc : s.run.guardCode = 0) (high : Bool) :
    exec (.guardInputChange high) s = .next (s.event fun u => u.guardSample high) := by
  simp [exec, execGuardInputChange, hr, hc]

/-- With a filter code nothing follows the sample of a contact input. -/
theorem exec_contactSenseChange_filtered (hr : s.run.resetHeld = false) (hc : s.ctm.code ≠ 0) (h : HeadId) (made : Bool) :
    exec (.contactSenseChange h made) s = .next (s.begin.contactSample h made).finish := by
  rw [← plain_eq (f := fun u => u.contactSample h made) hr]
  simp [exec, execContactSenseChange, hr, hc]

/-- With filter code 0 the sample of a contact input is an event that others may follow. -/
theorem exec_contactSenseChange_unfiltered (hr : s.run.resetHeld = false) (hc : s.ctm.code = 0) (h : HeadId) (made : Bool) :
    exec (.contactSenseChange h made) s = .next (s.event fun u => u.contactSample h made) := by
  simp [exec, execContactSenseChange, hr, hc]

/-! ### A sample of the GUARD pin (R172) -/

/-- With a filter code the timer starts, runs on or stops. -/
theorem guardSample_filtered (hc : s.run.guardCode ≠ 0) (high : Bool) :
    s.guardSample high = s.modRun fun r =>
      { r with
        guardPin := high
        guardTimer :=
          if (high == r.polarity) = r.guardOpen then none
          else if r.guardTimer.isSome = true then r.guardTimer else some 0 } :=
  if_neg hc

/-- With filter code 0 a sample equal to the filtered level stops the timer. -/
theorem guardSample_same (hc : s.run.guardCode = 0) {high : Bool} (he : (high == s.run.polarity) = s.run.guardOpen) :
    s.guardSample high = s.modRun fun r => { r with guardPin := high, guardTimer := none } := by
  simp [State.guardSample, State.modRun, RunControl.guardRaw, hc, he]

/-- With filter code 0 the filtered level follows a sample that differs from it. -/
theorem guardSample_differs (hc : s.run.guardCode = 0) {high : Bool} (hd : (high == s.run.polarity) ≠ s.run.guardOpen) :
    s.guardSample high = (s.modRun fun r => { r with guardPin := high }).guardChange (high == s.run.polarity) := by
  simp [State.guardSample, State.modRun, RunControl.guardRaw, hc, hd]

/-- The expiry of the guard filter gives the filtered level the pin's. -/
theorem guardFilterExpires_running (ht : s.run.guardTimer.isSome = true) :
    s.guardFilterExpires = s.guardChange (s.run.guardPin == s.run.polarity) := by
  simp [State.guardFilterExpires, RunControl.guardRaw, ht]

/-- A change of the filtered guard level stops the filter timer, so that it is the same for any timer. -/
theorem guardChange_timer (s : State) (timer : Option Nat) (isOpen : Bool) :
    (s.modRun fun r => { r with guardTimer := timer }).guardChange isOpen = s.guardChange isOpen := rfl

/-! ### A sample of a contact input (R103) -/

/-- With a filter code the timer starts, runs on or stops. -/
theorem contactSample_filtered (hc : s.ctm.code ≠ 0) (h : HeadId) (made : Bool) :
    s.contactSample h made = s.modContact h fun c => c.sampled made := if_neg hc

/-- With filter code 0 a sample equal to the filtered level stops the timer. -/
theorem contactSample_same (hc : s.ctm.code = 0) {h : HeadId} {made : Bool} (he : made = (s.contact h).filtered) :
    s.contactSample h made = s.modContact h fun c => { c with raw := made, timer := none } := by
  simp [State.contactSample, hc, he]

/-- With filter code 0 the filtered level follows a sample that differs from it. -/
theorem contactSample_differs (hc : s.ctm.code = 0) {h : HeadId} {made : Bool} (hd : made ≠ (s.contact h).filtered) :
    s.contactSample h made = (s.modContact h fun c => { c with raw := made, timer := none }).filteredChange h made := by
  simp [State.contactSample, hc, hd.symm]

/-- The expiry of a contact filter gives the filtered level the raw one, and stops the timer. -/
theorem contactFilterExpires_running {h : HeadId} (ht : (s.contact h).timer.isSome = true) :
    s.contactFilterExpires h = (s.modContact h fun c => { c with timer := none }).filteredChange h (s.contact h).raw := by
  simp [State.contactFilterExpires, ht]

/-! ### With filter code 0 a sample does what the expiry does -/

/-- A sample of GUARD that differs has the effect of the filter's expiry with that level. -/
theorem guardSample_eq_expires (hc : s.run.guardCode = 0) {high : Bool} (hd : (high == s.run.polarity) ≠ s.run.guardOpen) :
    s.guardSample high =
      (s.modRun fun r => { r with guardPin := high, guardTimer := some 0 }).guardFilterExpires := by
  rw [guardSample_differs hc hd, guardFilterExpires_running rfl]
  exact (guardChange_timer _ (some 0) _).symm

/-- A contact sample that differs has the effect of the filter's expiry with that level. -/
theorem contactSample_eq_expires (hc : s.ctm.code = 0) {h : HeadId} {made : Bool} (hd : made ≠ (s.contact h).filtered) :
    s.contactSample h made =
      (s.modContact h fun c => { c with raw := made, timer := some 0 }).contactFilterExpires h := by
  rw [contactSample_differs hc hd, contactFilterExpires_running (by simp), State.modContact_modContact,
    State.contact_modContact, if_pos rfl]

/-! ### A sample equal to the filtered level leaves the course of the part -/

theorem sameCourse_modContact (s : State) (h : HeadId) (f : Contact → Contact) : SameCourse s (s.begin.modContact h f) :=
  ⟨rfl, rfl, rfl, rfl, rfl, rfl, rfl, fun _ => rfl, fun _ => rfl⟩

theorem sameCourse_modRun {f : RunControl → RunControl} (hf : (f s.run).state = s.run.state) :
    SameCourse s (s.begin.modRun f) :=
  ⟨rfl, rfl, hf, rfl, rfl, rfl, rfl, fun _ => rfl, fun _ => rfl⟩

/-- A settled part has nothing to follow a guard sample that equals the filtered level. -/
theorem event_guardSample_same (hs : s.Settled) (hc : s.run.guardCode = 0) {high : Bool}
    (he : (high == s.run.polarity) = s.run.guardOpen) :
    s.event (fun u => u.guardSample high) =
      (s.begin.modRun fun r => { r with guardPin := high, guardTimer := none }).finish := by
  have hsample := guardSample_same (s := s.begin) hc he
  rw [event_of_course (f := fun u => u.guardSample high) hs] <;> simp only [hsample]
  · exact sameCourse_modRun rfl
  · exact s.begin_clear

/-- A settled part has nothing to follow a contact sample that equals the filtered level. -/
theorem event_contactSample_same (hs : s.Settled) (hc : s.ctm.code = 0) {h : HeadId} {made : Bool}
    (he : made = (s.contact h).filtered) :
    s.event (fun u => u.contactSample h made) =
      (s.begin.modContact h fun c => { c with raw := made, timer := none }).finish := by
  have hsample := contactSample_same (s := s.begin) hc he
  rw [event_of_course (f := fun u => u.contactSample h made) hs] <;> simp only [hsample]
  · exact sameCourse_modContact s h _
  · exact s.begin_clear

end

/-- Settles O23: for each input the sample with a filter code, and with code 0 the sample that equals the filtered level and the
one that differs from it. -/
theorem levelsSampled : Obligations.LevelsSampled := by
  refine ⟨fun s high hr hc => ?_, fun s h made hr hc => ?_, fun s high hr hc => ⟨fun he hs => ?_, fun hd => ?_⟩,
    fun s h made hr hc => ⟨fun he hs => ?_, fun hd => ?_⟩⟩
  · rw [exec_guardInputChange_filtered hr hc, guardSample_filtered (s := s.begin) hc]
    rfl
  · rw [exec_contactSenseChange_filtered hr hc, contactSample_filtered (s := s.begin) hc]
    rfl
  · rw [exec_guardInputChange_unfiltered hr hc, event_guardSample_same hs hc he]
    rfl
  · rw [exec_guardInputChange_unfiltered hr hc]
    exact congrArg Host.Outcome.next (event_eq_of_effect hr hr (guardSample_eq_expires (s := s.begin) hc hd))
  · rw [exec_contactSenseChange_unfiltered hr hc, event_contactSample_same hs hc he]
    rfl
  · rw [exec_contactSenseChange_unfiltered hr hc]
    exact congrArg Host.Outcome.next (event_eq_of_effect hr hr (contactSample_eq_expires (s := s.begin) hc hd))

end Sys2Proof.Machine
end
